-- ==== Sys2Proof/Word.lean ====
section
/-! DEFINITION. The two widths every part of the model shares: the 32-bit word (command words, addresses, timer
registers, the result port) and the byte (the one access size, 20_memory.md R74 and R76). -/

namespace Sys2Proof

/-- A 32-bit word (30_encoding.md R103, 10_state.md R49). -/
abbrev Word := BitVec 32

/-- A byte of host memory (20_memory.md R70). -/
abbrev Byte := BitVec 8

end Sys2Proof
end

