-- ==== Sys2Proof/Syntax.lean ====
section
/-! DEFINITION. The instructions: one constructor per row of spec/opcode_table.json. PALVT fetches no instructions; its three
encoding spaces (30_encoding.md R100) are the phase code at an expiry, the host command word and the event code of an agent's
step, and `Instr` has the rows of all three. -/

namespace Sys2Proof

/-- The three encoding spaces of 30_encoding.md R100. -/
inductive Space where
  | phase
  | cmd
  | evt
  deriving DecidableEq, Repr

/-- What a 3-bit phase code selects at an expiry (30_encoding.md R101, R102). `reserved low` is code `11x` with `x = low`. -/
inductive Phase where
  | sync1Start
  | sync1End
  | vidStart
  | vidBackporch
  | sync2Start
  | sync2End
  | reserved (low : Bool)
  deriving DecidableEq, Repr

/-- What the word or words of a host command select (30_encoding.md R103 to R108). -/
inductive Command where
  | configure (vpin spin : BitVec 8) (bitord : Bool) (width height : BitVec 16)
  | teardown
  | rdreg (regno : BitVec 8)
  | reservedCmd (word0 : Word)
  deriving DecidableEq, Repr

/-- The rows of spec/opcode_table.json. -/
inductive Instr where
  /-- Phase code 000 (R163). -/
  | sync1Start
  /-- Phase code 001 (R164). -/
  | sync1End
  /-- Phase code 010 (R165). -/
  | vidStart
  /-- Phase code 011 (R166). -/
  | vidBackporch
  /-- Phase code 100 (R167). -/
  | sync2Start
  /-- Phase code 101 (R168). -/
  | sync2End
  /-- Phase codes 110 and 111 (R169); `low` is bit 0. -/
  | reservedPhase (low : Bool)
  /-- Opcode 0x01 (R104, R105, R231 to R235). -/
  | configure (vpin spin : BitVec 8) (bitord : Bool) (width height : BitVec 16)
  /-- Opcode 0x02 (R106, R236). -/
  | teardown
  /-- Opcode 0x03 (R107, R237). -/
  | rdreg (regno : BitVec 8)
  /-- Every command word no other row matches (R108, R238). -/
  | reservedCmd (word0 : Word)
  /-- Event code 000 (R160). -/
  | tick
  /-- Event code 001 (R205). -/
  | dmaByte
  /-- Event code 010 (R240). -/
  | extHalt
  /-- Event code 011 (R241): the host writes one byte. -/
  | hostWrite (addr : Word) (value : Byte)
  /-- Event code 100 (R230): the host delivers the one or two words of a command. -/
  | hostCmd (word0 word1 : Word)
  /-- Event code 101 (R111): names no step. -/
  | reservedEvt101
  /-- Event codes 110 and 111 (R111): name no step; `low` is bit 0. -/
  | reservedEvt11x (low : Bool)
  deriving DecidableEq, Repr

/-- The phase transition as an instruction. -/
def Phase.toInstr : Phase → Instr
  | .sync1Start => .sync1Start
  | .sync1End => .sync1End
  | .vidStart => .vidStart
  | .vidBackporch => .vidBackporch
  | .sync2Start => .sync2Start
  | .sync2End => .sync2End
  | .reserved low => .reservedPhase low

/-- The host command as an instruction. -/
def Command.toInstr : Command → Instr
  | .configure vpin spin bitord width height => .configure vpin spin bitord width height
  | .teardown => .teardown
  | .rdreg regno => .rdreg regno
  | .reservedCmd word0 => .reservedCmd word0

/-- The encoding space an instruction's row belongs to. -/
def Instr.space : Instr → Space
  | .sync1Start | .sync1End | .vidStart | .vidBackporch | .sync2Start | .sync2End | .reservedPhase _ => .phase
  | .configure _ _ _ _ _ | .teardown | .rdreg _ | .reservedCmd _ => .cmd
  | .tick | .dmaByte | .extHalt | .hostWrite _ _ | .hostCmd _ _ | .reservedEvt101 | .reservedEvt11x _ => .evt

end Sys2Proof
end

