-- ==== Sys2Proof/Decode.lean ====
section
/-! DEFINITION. The decoder, total on any list of words and rejecting by name, and after it the encoder, both written from
30_encoding.md R101 to R111. A phase code is the low three bits of one word. A command is one or two words, as the command
port delivers them. An event is its code in one word and then its operands, one word each: the spec gives events no wire
form (R111), so that layout is the model's own (DESIGN CHOICE, log entry 6). -/

namespace Sys2Proof

/-- Why the decoder rejects a list of words. -/
inductive Reject where
  /-- The list ends before the instruction does. -/
  | tooFewWords
  /-- A word that holds a 3-bit code has a bit set above bit 2. -/
  | notACode
  /-- A word that holds a byte operand has a bit set above bit 7. -/
  | notAByte
  /-- Words are left over after one scheduled step. -/
  | trailingWords
  deriving DecidableEq, Repr

/-- The opcode of a command word, bits [31:24] (30_encoding.md R103). -/
def opcode (word0 : Word) : BitVec 8 := word0.extractLsb' 24 8

/-- Word 0 matches the CONFIGURE row: opcode 0x01 and RSV0 = bits [7:1] zero (R104). -/
def isConfigureWord (word0 : Word) : Bool := opcode word0 == 0x01#8 && word0.extractLsb' 1 7 == 0#7

/-- Word 0 matches the TEARDOWN row: opcode 0x02 and RSV = bits [23:0] zero (R106). -/
def isTeardownWord (word0 : Word) : Bool := opcode word0 == 0x02#8 && word0.extractLsb' 0 24 == 0#24

/-- Word 0 matches the RDREG row: opcode 0x03 and RSV = bits [23:8] zero (R107). -/
def isRdregWord (word0 : Word) : Bool := opcode word0 == 0x03#8 && word0.extractLsb' 8 16 == 0#16

/-- No other row matches the word (R108): the RESERVED_CMD row has the lowest decode priority. -/
def isReservedWord (word0 : Word) : Bool :=
  !isConfigureWord word0 && !isTeardownWord word0 && !isRdregWord word0

/-- The 3-bit phase codes (R101, R102). -/
def Phase.ofCode (c : BitVec 3) : Phase :=
  match c.toNat with
  | 0 => .sync1Start
  | 1 => .sync1End
  | 2 => .vidStart
  | 3 => .vidBackporch
  | 4 => .sync2Start
  | 5 => .sync2End
  | 6 => .reserved false
  | _ => .reserved true

/-- The code of a phase (R101, R102). -/
def Phase.code : Phase → BitVec 3
  | .sync1Start => 0#3
  | .sync1End => 1#3
  | .vidStart => 2#3
  | .vidBackporch => 3#3
  | .sync2Start => 4#3
  | .sync2End => 5#3
  | .reserved false => 6#3
  | .reserved true => 7#3

/-- How many words a command has: told by the opcode alone, an illegal CONFIGURE included (R103, R108). -/
def commandWords (word0 : Word) : Nat := if opcode word0 == 0x01#8 then 2 else 1

/-- The command its words select (R104 to R108). Word 1 is read for CONFIGURE alone. -/
def decodeCommand (word0 word1 : Word) : Command :=
  if isConfigureWord word0 then
    .configure (word0.extractLsb' 16 8) (word0.extractLsb' 8 8) (word0.extractLsb' 0 1 == 1#1)
      (word1.extractLsb' 16 16) (word1.extractLsb' 0 16)
  else if isTeardownWord word0 then .teardown
  else if isRdregWord word0 then .rdreg (word0.extractLsb' 0 8)
  else .reservedCmd word0

/-- One or two command words off the front of a list (R103). -/
def takeCommandWords : List Word → Except Reject ((Word × Word) × List Word)
  | [] => .error .tooFewWords
  | word0 :: rest =>
    if commandWords word0 = 2 then
      match rest with
      | [] => .error .tooFewWords
      | word1 :: rest' => .ok ((word0, word1), rest')
    else .ok ((word0, 0#32), rest)

/-- One event off the front of a list: the code (R111), then its operands. -/
def decodeEvent : List Word → Except Reject (Instr × List Word)
  | [] => .error .tooFewWords
  | c :: rest =>
    match c.toNat with
    | 0 => .ok (.tick, rest)
    | 1 => .ok (.dmaByte, rest)
    | 2 => .ok (.extHalt, rest)
    | 3 =>
      match rest with
      | addr :: value :: rest' =>
        if value.toNat < 256 then .ok (.hostWrite addr (value.setWidth 8), rest') else .error .notAByte
      | _ => .error .tooFewWords
    | 4 =>
      match takeCommandWords rest with
      | .ok ((word0, word1), rest') => .ok (.hostCmd word0 word1, rest')
      | .error r => .error r
    | 5 => .ok (.reservedEvt101, rest)
    | 6 => .ok (.reservedEvt11x false, rest)
    | 7 => .ok (.reservedEvt11x true, rest)
    | _ => .error .notACode

/-- One instruction of the given encoding space off the front of a list of words. -/
def decode : Space → List Word → Except Reject (Instr × List Word)
  | .phase, [] => .error .tooFewWords
  | .phase, c :: rest =>
    if c.toNat < 8 then .ok ((Phase.ofCode (c.setWidth 3)).toInstr, rest) else .error .notACode
  | .cmd, ws =>
    match takeCommandWords ws with
    | .ok ((word0, word1), rest) => .ok ((decodeCommand word0 word1).toInstr, rest)
    | .error r => .error r
  | .evt, ws => decodeEvent ws

/-- The words that one list holds in full: the instruction, if nothing is left over. -/
def decodeWhole (sp : Space) (ws : List Word) : Except Reject Instr :=
  match decode sp ws with
  | .ok (i, []) => .ok i
  | .ok (_, _ :: _) => .error .trailingWords
  | .error r => .error r

/-- Word 0 of CONFIGURE (R104): OPC in [31:24], VPIN in [23:16], SPIN in [15:8], RSV0 zero, BITORD in bit 0. -/
def configureWord0 (vpin spin : BitVec 8) (bitord : Bool) : Word :=
  BitVec.ofNat 32 (0x01 * 2 ^ 24 + vpin.toNat * 2 ^ 16 + spin.toNat * 2 ^ 8 + bitord.toNat)

/-- Word 1 of CONFIGURE (R105): WIDTH in [31:16], HEIGHT in [15:0]. -/
def configureWord1 (width height : BitVec 16) : Word := BitVec.ofNat 32 (width.toNat * 2 ^ 16 + height.toNat)

/-- The word of RDREG (R107): OPC in [31:24], RSV zero, REGNO in [7:0]. -/
def rdregWord (regno : BitVec 8) : Word := BitVec.ofNat 32 (0x03 * 2 ^ 24 + regno.toNat)

/-- The words of an instruction. An illegal CONFIGURE still has a second word, which nothing reads (R108): zero here. -/
def encode : Instr → List Word
  | .sync1Start => [0#32]
  | .sync1End => [1#32]
  | .vidStart => [2#32]
  | .vidBackporch => [3#32]
  | .sync2Start => [4#32]
  | .sync2End => [5#32]
  | .reservedPhase low => [if low then 7#32 else 6#32]
  | .configure vpin spin bitord width height => [configureWord0 vpin spin bitord, configureWord1 width height]
  | .teardown => [0x02000000#32]
  | .rdreg regno => [rdregWord regno]
  | .reservedCmd word0 => if commandWords word0 = 2 then [word0, 0#32] else [word0]
  | .tick => [0#32]
  | .dmaByte => [1#32]
  | .extHalt => [2#32]
  | .hostWrite addr value => [3#32, addr, value.setWidth 32]
  | .hostCmd word0 word1 => 4#32 :: (if commandWords word0 = 2 then [word0, word1] else [word0])
  | .reservedEvt101 => [5#32]
  | .reservedEvt11x low => [if low then 7#32 else 6#32]

/-- The words of a table row numbered as spec/opcode_table.json numbers them, the operand words above `nbits` zero. A row of
up to 8 bits is a 3-bit code, one word. A wider row is a command: two words if its opcode takes two. -/
def tableWords (nbits w : Nat) : List Word :=
  let word0 : Word := BitVec.ofNat 32 w
  if nbits ≤ 8 then [word0]
  else if commandWords word0 = 2 then [word0, BitVec.ofNat 32 (w / 2 ^ 32)]
  else [word0]

/-- The space a table row of `nbits` bits is read in. The table numbers phase codes and event codes alike (3 bits, from 0), so
no reading of the bits alone can tell them apart. The model reads a 3-bit row as a PHASE code: event codes "never appear on a
wire" (R111), phase codes stand in a register (DESIGN CHOICE, log entry 5). -/
def tableSpace (nbits : Nat) : Space := if nbits ≤ 8 then .phase else .cmd

/-- What the decoder reads from a row of the opcode table. -/
def decodeTableWord (nbits w : Nat) : Option Instr :=
  match decodeWhole (tableSpace nbits) (tableWords nbits w) with
  | .ok i => some i
  | .error _ => none

end Sys2Proof
end

