-- ==== Sys2Proof/Config.lean ====
section
/-! DEFINITION. What one machine fixes for good (the named parameters of 00_scope.md R8 to R10) and the values the spec
leaves free (`draw()`, 00_scope.md R15). -/

namespace Sys2Proof

/-- The named parameters the spec leaves OPEN (00_scope.md R8, R9, R10). A machine has one value of this record for good:
`State` holds it and no step writes it, so that a statement over every state is a statement over every parameter choice.

A duration numerator is at most 64, since R7 makes every duration a fraction of one line (DEDUCED, log entry 4).
`INIT_LINE` is one of the 625 line indices of R7. An address is at most 32 bits wide, since RDREG answers on a 32-bit port
(DEDUCED, log entry 3). -/
structure Params where
  kShortOn : Fin 65
  kLongOn : Fin 65
  kFrontPorch : Fin 65
  kBackPorch : Fin 65
  kShortOff : Fin 65
  kLongOff : Fin 65
  field2Base : Nat
  vblankAllow : Nat
  initLine : Fin 625
  addrWidth : Fin 33
  videoIdleLevel : Bool
  deriving DecidableEq, Repr

/-- FREE VALUE: the n-th value the spec does not state, where a register is written with a number it cannot hold
(log entry 8). It has no body, so nothing can be proved of it; `State.draws` counts how many were taken. -/
opaque Config.draw : Nat → Nat

/-- FREE VALUE: the level of the serial output in the n-th interval with no pixel on the pin (42_scanline_transfer.md R208,
93_implementation_defined.md I14; log entry 7). `State.gap` names the interval. -/
opaque Config.serializerGap : Nat → Bool

end Sys2Proof
end

