-- ==== Sys2Proof/Machine/Params.lean ====
section
/-! DEFINITION. The numbers of the model: the constants the source fixes (00_scope.md R7), the defaults of the named
parameters (R8 to R10), and what a byte of host memory that nothing has written reads as. -/

namespace Sys2Proof

/-- The last line index of a frame (R7). -/
def maxLine : Nat := 624

/-- Lines per second (R7). -/
def lineRateHz : Nat := 15625

/-- Every duration is a fraction of one line in 64ths (R7). -/
def lineFractionDenom : Nat := 64

/-- How many lines of a field are mapped onto the framebuffer's height (R7). -/
def mappedLines : Nat := 270

/-- Pixels in one byte: `BITS_PER_PIXEL` is 1 (R7). -/
def pixelsPerByte : Nat := 8

/-- The spec's defaults (R8, R9, R10). -/
def Params.default : Params where
  kShortOn := 5
  kLongOn := 27
  kFrontPorch := 8
  kBackPorch := 7
  kShortOff := 27
  kLongOff := 5
  field2Base := 312
  vblankAllow := 5
  initLine := 0
  addrWidth := 32
  videoIdleLevel := false

/-- What a byte of host memory reads as when no entry lists it. The spec leaves the initial contents to the host
(20_memory.md R80, 93_implementation_defined.md I18): any contents are some value of `State.mem`, and zero is only what the
empty list stands for (DESIGN CHOICE, log entry 9). -/
def unwrittenByte : Byte := 0x00#8

end Sys2Proof
end

