-- ==== Sys2Proof/Machine/State.lean ====
section
/-! DEFINITION. The state of PALVT as plain data: the seven register groups of 10_state.md R30, the observation state of R55
and R60, the result port of 30_encoding.md R109 and the host's memory. After them stand the model's own fields: the
parameters, what the environment will do next, and the counters of the free values. -/

namespace Sys2Proof
namespace Machine

/-- Host memory: address and byte pairs, addresses strictly rising, no entry equal to `unwrittenByte` (`Memory.wf`). -/
abbrev Memory := List Host.Cell

/-- Group 1 of R30: PHASE (R32) and LINE (R34). -/
structure Sequencer where
  phase : BitVec 3
  line : BitVec 10
  deriving DecidableEq, Repr

/-- Group 2 of R30: the signal geometry (R35), TICKS_PER_LINE and the seven durations (R36). -/
structure Geometry where
  widthPx : BitVec 17
  bytesPerRow : BitVec 14
  height : BitVec 16
  ticksPerLine : Word
  dShortOn : Word
  dShortOff : Word
  dLongOn : Word
  dLongOff : Word
  dFrontPorch : Word
  dBackPorch : Word
  dActive : Word
  deriving DecidableEq, Repr

/-- Group 3 of R30: FB_BASE and FB_SIZE (R37). -/
structure FrameBuffer where
  base : Word
  size : BitVec 29
  deriving DecidableEq, Repr

/-- TMR_CTRL (R40): bit 0 RUN, bit 1 IRQ_EN. -/
structure TmrCtrl where
  run : Bool
  irqEn : Bool
  deriving DecidableEq, Repr

/-- Group 4 of R30: the line timer (R38, R39, R40). -/
structure Timer where
  period : Word
  count : Word
  ctrl : TmrCtrl
  deriving DecidableEq, Repr

/-- VIDEO_MODE (R41): 0 PLAIN, 1 SERIAL. -/
inductive VideoMode where
  | plain
  | serial
  deriving DecidableEq, Repr

/-- Group 5 of R30: the five fields of PIN_STATE (R41) and the two of PIN_IDS (R43). -/
structure Pins where
  syncLevel : Bool
  syncDriven : Bool
  videoMode : VideoMode
  videoDriven : Bool
  videoLevel : Bool
  vpin : BitVec 8
  spin : BitVec 8
  deriving DecidableEq, Repr

/-- Group 6 of R30: DMA_SRC, DMA_LEN and DMA_CTRL.ACTIVE (R44). -/
structure Transfer where
  src : Word
  len : BitVec 14
  active : Bool
  deriving DecidableEq, Repr

/-- CFG_MISC.BIT_ORDER (R47): 0 most significant bit first, 1 least significant bit first. -/
inductive BitOrder where
  | msbFirst
  | lsbFirst
  deriving DecidableEq, Repr

/-- FAULT (R48): bit 0 FAULTED, bits [7:4] REASON. Bits [3:1] read 0 and have no storage. -/
structure FaultReg where
  faulted : Bool
  reason : BitVec 4
  deriving DecidableEq, Repr

/-- Group 7 of R30: STATUS (R45), ACTIVE (R46), CFG_MISC (R47) and FAULT (R48). -/
structure Control where
  status : BitVec 8
  active : Bool
  bitOrder : BitOrder
  fault : FaultReg
  deriving DecidableEq, Repr

/-- The status codes that are ever produced (60_exceptions.md R260). -/
inductive Status where
  | ok
  | badCommand
  | busy
  | badArgument
  | fbAllocFailed
  | timerUnavailable
  | badRate
  | faulted
  deriving DecidableEq, Repr

/-- The events of the output trace (R60). `t` is NOW when the event is emitted. -/
inductive TraceEvent where
  | sync (t : Nat) (level : Bool)
  | vmode (t : Nat) (mode : VideoMode)
  | arm (t line row src len : Nat)
  | pix (t : Nat) (byte : Byte) (order : BitOrder)
  | lost (t : Nat) (byte : Byte)
  | cfg (t : Nat) (status : Status)
  | down (t : Nat)
  | halt (t : Nat)
  | fault (t : Nat) (reason : BitVec 4)
  deriving DecidableEq, Repr

/-- One answer on the result port: an 8-bit status and a 32-bit value (30_encoding.md R109). -/
structure CommandResult where
  status : BitVec 8
  value : Word
  deriving DecidableEq, Repr

/-- What the two collaborators answer a CONFIGURE that asks them now (43_host_commands.md R232): the framebuffer provider a
base address, the timer reservation a running frequency in Hz; `none` is FAIL. -/
structure HostAnswers where
  fb : Option Word
  timer : Option Word
  deriving DecidableEq, Repr

/-- One step the environment has scheduled: the words of its event (30_encoding.md R111) and the answers the collaborators
give while it is taken. -/
structure ScheduledStep where
  words : List Word
  answers : HostAnswers
  deriving DecidableEq, Repr

/-- Why the machine stops with a fault. The sticky FAULT register of R48 is no such stop: raising it is a next state. -/
inductive Fault where
  /-- Raised by HOST_WRITE and DMA_BYTE for an address of 2^ADDR_WIDTH or more, which names no byte (20_memory.md R70). Never
  raised at the default ADDR_WIDTH of 32. Safe: the machine stops where the spec has no byte to access. -/
  | outsideAddressSpace
  deriving DecidableEq, Repr

/-- Why a step has no meaning. -/
inductive Refusal where
  /-- Raised by an arm of `exec` for an instruction without a meaning; no arm does. Safe. -/
  | notModelled (mnemonic : String)
  /-- Raised by the event codes 101, 110 and 111: "A reserved event code names no step" (30_encoding.md R111). Safe. -/
  | reservedEvent (code : BitVec 3)
  /-- Raised by DMA_BYTE while no transfer is in flight or the block is faulted (42_scanline_transfer.md R204) and by EXT_HALT
  while the timer does not run (43_host_commands.md R240): the spec has no step there. Safe. -/
  | notEnabled
  /-- Raised by `step` for a scheduled step whose words are no event, with the decoder's reason. Safe. -/
  | undecodable (why : Reject)
  deriving DecidableEq, Repr

/-- The machine. -/
structure State where
  seq : Sequencer
  geom : Geometry
  fb : FrameBuffer
  tmr : Timer
  pins : Pins
  dma : Transfer
  ctl : Control
  /-- NOW (R55). -/
  now : Nat
  /-- The output trace, oldest event first (R60). -/
  trace : List TraceEvent
  /-- Every answer the result port has given, oldest first (R109; log entry 11). -/
  results : List CommandResult
  /-- Host memory (20_memory.md R70). -/
  mem : Memory
  /-- MODEL'S OWN: the named parameters (00_scope.md R8 to R10; log entry 2). -/
  params : Params
  /-- MODEL'S OWN: the steps the agents will take next, in their order (log entry 1). -/
  script : List ScheduledStep
  /-- MODEL'S OWN: the input ports of CONFIGURE (R232; log entry 10). -/
  answers : HostAnswers
  /-- MODEL'S OWN: how many free values `Config.draw` were taken (log entry 8). -/
  draws : Nat
  /-- MODEL'S OWN: the interval of the serial output that `Config.serializerGap` is read at (log entry 7). -/
  gap : Nat
  deriving DecidableEq, Repr

/-- The sequencer's registers at reset (R49). -/
def Sequencer.reset : Sequencer := ⟨0#3, 0#10⟩

/-- The geometry and timing registers at reset (R49). -/
def Geometry.reset : Geometry := ⟨0#17, 0#14, 0#16, 0#32, 0#32, 0#32, 0#32, 0#32, 0#32, 0#32, 0#32⟩

/-- The framebuffer reference at reset (R49). -/
def FrameBuffer.reset : FrameBuffer := ⟨0#32, 0#29⟩

/-- The line timer at reset (R49): stopped, its interrupt disabled. -/
def Timer.reset : Timer := ⟨0#32, 0#32, ⟨false, false⟩⟩

/-- The pins at reset (R41, R49): not driven, video in PLAIN mode. -/
def Pins.reset : Pins := ⟨false, false, .plain, false, false, 0#8, 0#8⟩

/-- The transfer engine at reset (R49): no transfer in flight. -/
def Transfer.reset : Transfer := ⟨0#32, 0#14, false⟩

/-- The block control registers at reset (R49). -/
def Control.reset : Control := ⟨0#8, false, .msbFirst, ⟨false, 0#4⟩⟩

/-- The machine after reset (70_reset_and_hazards.md R300): every register at its reset value, NOW 0, the trace empty. Memory
lists nothing, no command has been answered, nothing is scheduled, both collaborators answer FAIL, and the parameters are the
spec's defaults (log entries 1, 2, 7 to 12). -/
def State.reset : State where
  seq := .reset
  geom := .reset
  fb := .reset
  tmr := .reset
  pins := .reset
  dma := .reset
  ctl := .reset
  now := 0
  trace := []
  results := []
  mem := []
  params := .default
  script := []
  answers := ⟨none, none⟩
  draws := 0
  gap := 0

end Machine
end Sys2Proof
end

