-- ==== Sys2Proof/Machine/Ops.lean ====
section
/-! DEFINITION. The named operations over memory, registers and outputs. Every meaning is written over these: host memory, the
output trace and the result port, the line timer, the two pins, the transfer engine's registers, the fault and the reset. -/

namespace Sys2Proof
namespace Machine

/-! ### Host memory (20_memory.md R70 to R80) -/

/-- The canonical form: addresses strictly rising, and no entry equal to what an unlisted address reads as. -/
abbrev Memory.wf (m : Memory) : Prop :=
  m.Pairwise (fun c d => c.1 < d.1) ∧ ∀ c ∈ m, c.2 ≠ unwrittenByte

/-- The byte at an address: the latest write to it, else its initial value (R74, R80). -/
def Memory.read : Memory → Nat → Byte
  | [], _ => unwrittenByte
  | (b, w) :: m, a => if a = b then w else Memory.read m a

/-- One byte in front of a memory whose addresses are all higher; the unwritten value takes no entry. -/
def Memory.cons (a : Nat) (v : Byte) (m : Memory) : Memory := if v = unwrittenByte then m else (a, v) :: m

/-- Stores one byte (R75) and keeps the canonical form. -/
def Memory.write : Memory → Nat → Byte → Memory
  | [], a, v => Memory.cons a v []
  | (b, w) :: m, a, v =>
    if a < b then Memory.cons a v ((b, w) :: m)
    else if a = b then Memory.cons a v m
    else (b, w) :: Memory.write m a v

/-- The number of byte addresses, 2^ADDR_WIDTH (R70). -/
def addressSpace (s : State) : Nat := 2 ^ s.params.addrWidth.val

/-- The address names a byte of the address space (R70). -/
def inAddressSpace (s : State) (a : Word) : Bool := decide (a.toNat < addressSpace s)

/-- `MemRead(addr, 1)` (R74). A read has no side effect (R79). -/
def memRead (s : State) (a : Word) : Byte := Memory.read s.mem a.toNat

/-- `MemWrite(addr, 1, v)` (R75), issued by the host alone. -/
def memWrite (s : State) (a : Word) (v : Byte) : State := { s with mem := Memory.write s.mem a.toNat v }

/-! ### The output trace and the result port (10_state.md R60, 30_encoding.md R109) -/

/-- `emit(e)`: appends an event to the output trace (00_scope.md R15). -/
def emit (s : State) (e : TraceEvent) : State := { s with trace := s.trace ++ [e] }

/-- The 8-bit status codes (60_exceptions.md R260). -/
def Status.code : Status → BitVec 8
  | .ok => 0#8
  | .badCommand => 1#8
  | .busy => 2#8
  | .badArgument => 3#8
  | .fbAllocFailed => 4#8
  | .timerUnavailable => 5#8
  | .badRate => 6#8
  | .faulted => 7#8

/-- A command's answer on the result port (30_encoding.md R109). -/
def answer (s : State) (st : Status) (value : Word) : State :=
  { s with results := s.results ++ [⟨st.code, value⟩] }

/-- STATUS takes the status of a CONFIGURE or TEARDOWN (10_state.md R45). -/
def setStatus (s : State) (st : Status) : State := { s with ctl := { s.ctl with status := st.code } }

/-! ### The line timer and the phase -/

/-- The end of every transition R163 to R168: TMR_PERIOD and TMR_COUNT take the duration, PHASE the next phase
(41_pulse_state_machine.md R162). -/
def programTimer (s : State) (d : Word) (p : Phase) : State :=
  { s with
    tmr := { s.tmr with period := d, count := d }
    seq := { s.seq with phase := p.code } }

/-- LINE takes a new line index. -/
def setLine (s : State) (l : Nat) : State := { s with seq := { s.seq with line := BitVec.ofNat 10 l } }

/-- TMR_COUNT takes a new count. -/
def setCount (s : State) (c : Word) : State := { s with tmr := { s.tmr with count := c } }

/-- TMR_CTRL.RUN is cleared, IRQ_EN left alone (R240, R262). -/
def stopTimer (s : State) : State := { s with tmr := { s.tmr with ctrl := { s.tmr.ctrl with run := false } } }

/-- NOW counts one tick (R160). -/
def countTick (s : State) : State := { s with now := s.now + 1 }

/-! ### The two pins (10_state.md R41, R42) -/

/-- Drives the sync pin to a level, with its event (R163, R164, R167, R168). -/
def driveSync (s : State) (level : Bool) : State :=
  emit { s with pins := { s.pins with syncLevel := level } } (.sync s.now level)

/-- Switches the video pin's mode, with an event if the mode changes (R165, R166). A switch to SERIAL opens a new interval
with no pixel on the pin (R208). -/
def switchVideo (s : State) (m : VideoMode) : State :=
  if s.pins.videoMode = m then s
  else
    emit { s with
      pins := { s.pins with videoMode := m }
      gap := if m = .serial then s.gap + 1 else s.gap } (.vmode s.now m)

/-- The level of a physical pin: `z` is not driven (R42). -/
inductive PinLevel where
  | z
  | driven (high : Bool)
  deriving DecidableEq, Repr

/-- The sync pin (R42). -/
def syncPin (s : State) : PinLevel := if s.pins.syncDriven then .driven s.pins.syncLevel else .z

/-- The serial output between pixels: a free value for each interval (R208). -/
def serializerBit (s : State) : Bool := Config.serializerGap s.gap

/-- The video pin with `bit` as the output of the serializer, R42's `serializer_bit`: in SERIAL mode a bit of 1 drives the pin
high (42_scanline_transfer.md R208). -/
def videoPinWith (s : State) (bit : Bool) : PinLevel :=
  if s.pins.videoDriven then
    match s.pins.videoMode with
    | .plain => .driven s.pins.videoLevel
    | .serial => .driven bit
  else .z

/-- The video pin between the pixels of Pix events (R42, R208). -/
def videoPin (s : State) : PinLevel := videoPinWith s (serializerBit s)

/-- Pixel `k` of a byte shifted out in the given order (42_scanline_transfer.md R206, 20_memory.md R73). -/
def pixel (order : BitOrder) (b : Byte) (k : Nat) : Bool :=
  match order with
  | .msbFirst => b.getLsbD (7 - k)
  | .lsbFirst => b.getLsbD k

/-- The eight pixels a Pix event stands for, first shifted out first (R206). -/
def pixelsOf (order : BitOrder) (b : Byte) : List Bool := (List.range pixelsPerByte).map (pixel order b)

/-- The pixels one trace event puts on the video pin: a Lost byte puts none there (R209). -/
def shownPixels : TraceEvent → List Bool
  | .pix _ b order => pixelsOf order b
  | .sync _ _ | .vmode _ _ | .arm _ _ _ _ _ | .lost _ _ | .cfg _ _ | .down _ | .halt _ | .fault _ _ => []

/-- The pixels a trace shows, in order (R206, R208). -/
def picture (trace : List TraceEvent) : List Bool := trace.flatMap shownPixels

/-- The levels the video pin takes in one step from `s` to `t`, in order: while the step shows a byte the pin carries each of its
pixels as the output of the serializer, and after them the level the step leaves it at (R208). The spec gives a level no
duration here (log entry 15). -/
def videoPinDuring (s t : State) : List PinLevel :=
  (picture (t.trace.drop s.trace.length)).map (videoPinWith t) ++ [videoPin t]

/-! ### The transfer engine's registers (10_state.md R44) -/

/-- DMA_SRC takes an address. The register has ADDR_WIDTH bits (R44); the spec does not say what it holds after a number that
does not fit, so that value is free (log entry 8). -/
def setDmaSrc (s : State) (n : Nat) : State :=
  if n < addressSpace s then { s with dma := { s.dma with src := BitVec.ofNat 32 n } }
  else
    { s with
      dma := { s.dma with src := BitVec.ofNat 32 (Config.draw s.draws % addressSpace s) }
      draws := s.draws + 1 }

/-- `DMA_LEN <- DMA_LEN - 1`, and ACTIVE is cleared by the last byte (R205). A count of 0 with a transfer in flight, which no
run reaches, has no result the spec states: that value is free (log entry 8). -/
def countDmaByte (s : State) : State :=
  if s.dma.len = 0#14 then
    { s with dma := { s.dma with len := BitVec.ofNat 14 (Config.draw s.draws) }, draws := s.draws + 1 }
  else
    { s with dma := { s.dma with len := s.dma.len - 1#14, active := s.dma.active && s.dma.len != 1#14 } }

/-- A byte reaches the serializer: shown while the pin is SERIAL, lost while it is PLAIN (R205, R209). A shown byte ends one
interval with no pixel on the pin and opens the next (R208). -/
def shiftOut (s : State) (b : Byte) : State :=
  match s.pins.videoMode with
  | .serial => emit { s with gap := s.gap + 1 } (.pix s.now b s.ctl.bitOrder)
  | .plain => emit s (.lost s.now b)

/-! ### The fault and the reset (60_exceptions.md R262 to R269, 70_reset_and_hazards.md R300) -/

/-- BAD_PHASE (R264). -/
def badPhase : BitVec 4 := 1#4

/-- `raise Fault(reason)`: PALVT's one exception (R262). No state is saved, no mode changes and no vector is read (R268); the
timer stops and every register but FAULT and TMR_CTRL.RUN keeps its value. -/
def raiseFault (s : State) (reason : BitVec 4) : State :=
  emit (stopTimer { s with ctl := { s.ctl with fault := ⟨true, reason⟩ } }) (.fault s.now reason)

/-- Reset (R300). It is the one way out of the fault (R263): PALVT has no return from an exception (R269). Host memory is not
touched, and what is not the block's (the parameters, what the environment will do, the free values already taken) stays. -/
def powerOn (s : State) : State :=
  { State.reset with
    mem := s.mem
    params := s.params
    script := s.script
    answers := s.answers
    draws := s.draws
    gap := s.gap }

/-! ### What the environment does next -/

/-- The state in which the next scheduled step is taken: the step is off the script, and the collaborators answer as it says.
With nothing scheduled the state is as it stands (log entry 1). -/
def takeScheduled (s : State) : State :=
  match s.script with
  | [] => s
  | p :: rest => { s with script := rest, answers := p.answers }

/-- The instruction of the next step: the event that is scheduled, decoded; with nothing scheduled, a TICK (log entry 1). -/
def nextInstr (s : State) : Except Reject Instr :=
  match s.script with
  | [] => .ok .tick
  | p :: _ => decodeWhole .evt p.words

/-- Puts one event in front of what is scheduled, the collaborators answering as they do now. -/
def schedule (s : State) (words : List Word) : State := { s with script := ⟨words, s.answers⟩ :: s.script }

/-- Makes the next step a TICK whose expiry takes the transition of a phase code: PHASE holds the code, the timer runs with its
interrupt enabled and one tick is left (R160, R161). -/
def expireInPhase (s : State) (c : BitVec 3) : State :=
  schedule
    { s with
      seq := { s.seq with phase := c }
      tmr := { s.tmr with count := 1#32, ctrl := ⟨true, true⟩ } }
    (encode .tick)

end Machine
end Sys2Proof
end

