-- ==== Sys2Proof/Machine/Flags.lean ====
section
/-! DEFINITION. The predicates of the Line/Field Sequencer (40_line_field_sequencer.md). PALVT stores no flags (10_state.md
R52): these are pure functions of a line index, defined for every natural number (R140). -/

namespace Sys2Proof
namespace Machine

/-- `isVisibleLine` (R141). -/
def vis (l : Nat) : Bool := decide (5 ≤ l ∧ l ≤ 309) || decide (317 ≤ l ∧ l ≤ 622)

/-- `needsLongPulseAtSync1` (R142). -/
def longSync1 (l : Nat) : Bool := decide (l ≤ 2) || decide (313 ≤ l ∧ l ≤ 314)

/-- `needsLongPulseAtSync2` (R143). -/
def longSync2 (l : Nat) : Bool := decide (l ≤ 1) || decide (312 ≤ l ∧ l ≤ 314)

/-- `FIELD_BASE` (R144). -/
def fieldBase (p : Params) (l : Nat) : Nat := if l < p.field2Base then 0 else p.field2Base

/-- `lineInField`, an integer that never wraps (R145). -/
def lineInField (p : Params) (l : Nat) : Int := (l : Int) - fieldBase p l - p.vblankAllow

/-- `MAPPED`: the line triggers a transfer (R146). -/
def mapped (p : Params) (l : Nat) : Bool :=
  vis l && decide (0 ≤ lineInField p l ∧ lineInField p l < mappedLines)

/-- `rowIndex`, defined on mapped lines (R147): nothing reads it elsewhere. -/
def row (p : Params) (l height : Nat) : Nat := (lineInField p l).toNat * height / mappedLines

/-- `ROW_ADDR` on unbounded naturals (R148). -/
def rowAddr (p : Params) (l height base bytesPerRow : Nat) : Nat := base + row p l height * bytesPerRow

/-- The line the SYNC1_START transition advances to: 624 wraps to 0 (R163, 10_state.md R34). -/
def nextLine (l : Nat) : Nat := if l + 1 > maxLine then 0 else l + 1

/-- The current line index. -/
def lineOf (s : State) : Nat := s.seq.line.toNat

end Machine
end Sys2Proof
end

