-- ==== Sys2Proof/Machine/Operands.lean ====
section
/-! DEFINITION. The operands of the commands: a register read by its number (10_state.md R49), and the quantities CONFIGURE
derives from its operands and the host's answers (00_scope.md R12, 43_host_commands.md R232 to R234). -/

namespace Sys2Proof
namespace Machine

/-! ### Registers as bits -/

/-- TMR_CTRL (R40): IRQ_EN in bit 1, RUN in bit 0. -/
def TmrCtrl.bits (c : TmrCtrl) : BitVec 2 := BitVec.ofNat 2 (c.irqEn.toNat * 2 + c.run.toNat)

/-- VIDEO_MODE as a bit (R41): 0 PLAIN, 1 SERIAL. -/
def VideoMode.bit : VideoMode → Bool
  | .plain => false
  | .serial => true

/-- PIN_STATE (R41): VIDEO_LEVEL, VIDEO_DRIVEN, VIDEO_MODE, SYNC_DRIVEN, SYNC_LEVEL in bits 4 to 0. -/
def Pins.stateBits (p : Pins) : BitVec 5 :=
  BitVec.ofNat 5 (p.videoLevel.toNat * 16 + p.videoDriven.toNat * 8 + p.videoMode.bit.toNat * 4 +
    p.syncDriven.toNat * 2 + p.syncLevel.toNat)

/-- PIN_IDS (R43): SPIN in bits [15:8], VPIN in bits [7:0]. -/
def Pins.idBits (p : Pins) : BitVec 16 := BitVec.ofNat 16 (p.spin.toNat * 2 ^ 8 + p.vpin.toNat)

/-- CFG_MISC (R47): bit 0 BIT_ORDER. -/
def BitOrder.bit : BitOrder → Bool
  | .msbFirst => false
  | .lsbFirst => true

/-- The bit order an operand BITORD asks for (30_encoding.md R104). -/
def BitOrder.ofBit : Bool → BitOrder
  | false => .msbFirst
  | true => .lsbFirst

/-- FAULT (R48): REASON in bits [7:4], bits [3:1] zero, FAULTED in bit 0. -/
def FaultReg.bits (f : FaultReg) : BitVec 8 := BitVec.ofNat 8 (f.reason.toNat * 2 ^ 4 + f.faulted.toNat)

/-- The register a register number selects, zero-extended to 32 bits (10_state.md R49, 30_encoding.md R110). Numbers 0x1B to
0xFF are reserved (R50). -/
def readRegister (s : State) (regno : BitVec 8) : Option Word :=
  match regno.toNat with
  | 0x00 => some (s.ctl.status.setWidth 32)
  | 0x01 => some ((BitVec.ofBool s.ctl.active).setWidth 32)
  | 0x02 => some (s.seq.phase.setWidth 32)
  | 0x03 => some (s.seq.line.setWidth 32)
  | 0x04 => some (s.geom.widthPx.setWidth 32)
  | 0x05 => some (s.geom.bytesPerRow.setWidth 32)
  | 0x06 => some (s.geom.height.setWidth 32)
  | 0x07 => some s.geom.ticksPerLine
  | 0x08 => some s.geom.dShortOn
  | 0x09 => some s.geom.dShortOff
  | 0x0A => some s.geom.dLongOn
  | 0x0B => some s.geom.dLongOff
  | 0x0C => some s.geom.dFrontPorch
  | 0x0D => some s.geom.dBackPorch
  | 0x0E => some s.geom.dActive
  | 0x0F => some s.fb.base
  | 0x10 => some s.tmr.period
  | 0x11 => some s.tmr.count
  | 0x12 => some (s.tmr.ctrl.bits.setWidth 32)
  | 0x13 => some (s.pins.stateBits.setWidth 32)
  | 0x14 => some s.dma.src
  | 0x15 => some (s.dma.len.setWidth 32)
  | 0x16 => some ((BitVec.ofBool s.dma.active).setWidth 32)
  | 0x17 => some (s.pins.idBits.setWidth 32)
  | 0x18 => some ((BitVec.ofBool s.ctl.bitOrder.bit).setWidth 32)
  | 0x19 => some (s.ctl.fault.bits.setWidth 32)
  | 0x1A => some (s.fb.size.setWidth 32)
  | _ => none

/-! ### What CONFIGURE derives -/

/-- BYTES_PER_ROW for a requested width (R12, R232): the width rounded up to whole bytes. -/
def bytesPerRowOf (w : BitVec 16) : Nat := (w.toNat + 7) / pixelsPerByte

/-- WIDTH_PX for a requested width (R12): a multiple of 8. -/
def widthPxOf (w : BitVec 16) : Nat := bytesPerRowOf w * pixelsPerByte

/-- The bytes CONFIGURE asks the framebuffer provider for (R232). -/
def bufferBytes (w h : BitVec 16) : Nat := bytesPerRowOf w * h.toNat

/-- T, the ticks of one line, for a timer frequency in Hz (R12). -/
def ticksPerLineOf (f : Word) : Nat := f.toNat / lineRateHz

/-- A duration of `k` 64ths of a line of `t` ticks (R12, R233). -/
def durationOf (t : Nat) (k : Fin 65) : Nat := t * k.val / lineFractionDenom

/-- The part of a visible line that is not active video (R12). -/
def porchTicks (p : Params) (t : Nat) : Nat :=
  durationOf t p.kShortOn + durationOf t p.kFrontPorch + durationOf t p.kBackPorch

/-- The rate check passes: T, each of the six durations and the active time are at least one tick (R234). -/
def rateOk (p : Params) (t : Nat) : Bool :=
  decide (t ≠ 0) &&
    [p.kShortOn, p.kShortOff, p.kLongOn, p.kLongOff, p.kFrontPorch, p.kBackPorch].all
      (fun k => decide (durationOf t k ≠ 0)) &&
    decide (porchTicks p t < t)

/-- The geometry and timing registers of a session (R233). -/
def sessionGeometry (p : Params) (w h : BitVec 16) (t : Nat) : Geometry where
  widthPx := BitVec.ofNat 17 (widthPxOf w)
  bytesPerRow := BitVec.ofNat 14 (bytesPerRowOf w)
  height := h
  ticksPerLine := BitVec.ofNat 32 t
  dShortOn := BitVec.ofNat 32 (durationOf t p.kShortOn)
  dShortOff := BitVec.ofNat 32 (durationOf t p.kShortOff)
  dLongOn := BitVec.ofNat 32 (durationOf t p.kLongOn)
  dLongOff := BitVec.ofNat 32 (durationOf t p.kLongOff)
  dFrontPorch := BitVec.ofNat 32 (durationOf t p.kFrontPorch)
  dBackPorch := BitVec.ofNat 32 (durationOf t p.kBackPorch)
  dActive := BitVec.ofNat 32 (t - porchTicks p t)

/-- The provider's answer as the block takes it: a base whose buffer does not fit the address space counts as FAIL
(20_memory.md R77, R232). -/
def providedBase (s : State) (w h : BitVec 16) : Option Word :=
  match s.answers.fb with
  | none => none
  | some base => if base.toNat + bufferBytes w h ≤ addressSpace s then some base else none

end Machine
end Sys2Proof
end

