-- ==== Sys2Proof/Machine/Engine.lean ====
section
/-! DEFINITION. The transfer engine's step (42_scanline_transfer.md R204, R205). -/

namespace Sys2Proof
namespace Machine

/-- A byte step is enabled: a transfer is in flight and the block is not faulted (R204). -/
def dmaEnabled (s : State) : Bool := s.dma.active && !s.ctl.fault.faulted

/-- DMA_BYTE (R205): one byte of the row goes to the serializer. Where it is not enabled there is no step (log entry 13). -/
def execDmaByte (s : State) : Host.Outcome State Fault Refusal :=
  if dmaEnabled s then
    if inAddressSpace s s.dma.src then
      .next (countDmaByte (setDmaSrc (shiftOut s (memRead s s.dma.src)) (s.dma.src.toNat + 1)))
    else .fault .outsideAddressSpace
  else .refused .notEnabled

end Machine
end Sys2Proof
end

