-- ==== Sys2Proof/Machine/Commands.lean ====
section
/-! DEFINITION. The host commands (43_host_commands.md R231 to R238). -/

namespace Sys2Proof
namespace Machine

/-- CONFIGURE ends without a session: STATUS takes the status, a Cfg event is emitted and the port answers with the null
handle (R235, R261). -/
def failConfigure (s : State) (st : Status) : State :=
  answer (emit (setStatus s st) (.cfg s.now st)) st 0#32

/-- The pins of a new session: sync driven at its idle level, high; video driven in PLAIN mode at its idle level (R233). -/
def sessionPins (p : Params) (vpin spin : BitVec 8) : Pins := ⟨true, true, .plain, true, p.videoIdleLevel, vpin, spin⟩

/-- CONFIGURE succeeds (R233): one atomic step that starts a session of `t` ticks a line at `base`. -/
def startSession (s : State) (vpin spin : BitVec 8) (bitord : Bool) (w h : BitVec 16) (base : Word) (t : Nat) : State :=
  let started : State :=
    { s with
      seq := ⟨Phase.sync1Start.code, BitVec.ofNat 10 s.params.initLine.val⟩
      geom := sessionGeometry s.params w h t
      fb := ⟨base, BitVec.ofNat 29 (bufferBytes w h)⟩
      tmr := ⟨BitVec.ofNat 32 t, BitVec.ofNat 32 t, ⟨true, true⟩⟩
      pins := sessionPins s.params vpin spin
      dma := .reset
      ctl := { s.ctl with active := true, bitOrder := .ofBit bitord } }
  answer (emit (setStatus started .ok) (.cfg s.now .ok)) .ok base

/-- CONFIGURE: the checks 2 to 7 in their order, then the session (R231 to R235). Check 1 is the decoder's: a word 0 with a
reserved bit set is a reserved command. -/
def execConfigure (vpin spin : BitVec 8) (bitord : Bool) (w h : BitVec 16) (s : State) :
    Host.Outcome State Fault Refusal :=
  if s.ctl.fault.faulted then .next (failConfigure s .faulted)
  else if s.ctl.active then .next (failConfigure s .busy)
  else if w = 0#16 ∨ h = 0#16 ∨ vpin = spin then .next (failConfigure s .badArgument)
  else
    match providedBase s w h with
    | none => .next (failConfigure s .fbAllocFailed)
    | some base =>
      match s.answers.timer with
      | none => .next (failConfigure s .timerUnavailable)
      | some f =>
        if rateOk s.params (ticksPerLineOf f) then
          .next (startSession s vpin spin bitord w h base (ticksPerLineOf f))
        else .next (failConfigure s .badRate)

/-- Every register but FAULT at its reset value (R236, 92_eei_decisions.md D22; STATUS becomes OK, which is its reset value).
The timer's period and count are cleared too, as 10_state.md R38 and R39 say (log entry 14). -/
def clearRegisters (s : State) : State :=
  { s with
    seq := .reset
    geom := .reset
    fb := .reset
    tmr := .reset
    pins := .reset
    dma := .reset
    ctl := { Control.reset with fault := s.ctl.fault } }

/-- TEARDOWN (R236). -/
def execTeardown (s : State) : Host.Outcome State Fault Refusal :=
  if s.ctl.fault.faulted then .next (answer (setStatus s .faulted) .faulted 0#32)
  else .next (answer (emit (clearRegisters s) (.down s.now)) .ok 0#32)

/-- RDREG (R237): no register changes. -/
def execRdreg (regno : BitVec 8) (s : State) : Host.Outcome State Fault Refusal :=
  match readRegister s regno with
  | some v => .next (answer s .ok v)
  | none => .next (answer s .badCommand 0#32)

/-- A reserved or illegal command (R238): it is answered and changes nothing. -/
def execReservedCmd (_word0 : Word) (s : State) : Host.Outcome State Fault Refusal :=
  .next (answer s .badCommand 0#32)

end Machine
end Sys2Proof
end

