-- ==== Sys2Proof/Machine/HostEvents.lean ====
section
/-! DEFINITION. The host's steps (43_host_commands.md R230, R240, R241) and the event codes that name no step (30_encoding.md
R111). -/

namespace Sys2Proof
namespace Machine

/-- Performs a command's rule. -/
def performCommand (c : Command) (s : State) : Host.Outcome State Fault Refusal :=
  match c with
  | .configure vpin spin bitord w h => execConfigure vpin spin bitord w h s
  | .teardown => execTeardown s
  | .rdreg regno => execRdreg regno s
  | .reservedCmd word0 => execReservedCmd word0 s

/-- HOST_CMD (R230): the block decodes the words, performs the command and answers, in one step that is always enabled. -/
def execHostCmd (word0 word1 : Word) (s : State) : Host.Outcome State Fault Refusal :=
  performCommand (decodeCommand word0 word1) s

/-- EXT_HALT (R240): enabled while the timer runs; it clears RUN and the outputs freeze. With the timer
stopped there is no step (log entry 13). -/
def execExtHalt (s : State) : Host.Outcome State Fault Refusal :=
  if s.tmr.ctrl.run then .next (emit (stopTimer s) (.halt s.now)) else .refused .notEnabled

/-- HOST_WRITE (R241): one byte of host memory; the block's own state does not change. -/
def execHostWrite (addr : Word) (value : Byte) (s : State) : Host.Outcome State Fault Refusal :=
  if inAddressSpace s addr then .next (memWrite s addr value) else .fault .outsideAddressSpace

/-- Event code 101 (R111): "A reserved event code names no step: a model has no transition for it." -/
def execReservedEvt101 (_s : State) : Host.Outcome State Fault Refusal := .refused (.reservedEvent 5#3)

/-- Event codes 110 and 111 (R111): no step. -/
def execReservedEvt11x (low : Bool) (_s : State) : Host.Outcome State Fault Refusal :=
  .refused (.reservedEvent (if low then 7#3 else 6#3))

end Machine
end Sys2Proof
end

