-- ==== Sys2Proof/Machine/Sequencer.lean ====
section
/-! DEFINITION. The Pulse State Machine and the line timer (41_pulse_state_machine.md): the seven transitions an expiry can
take, the expiry dispatch and the tick. -/

namespace Sys2Proof
namespace Machine

/-- ARM: starts the transfer of the current line's row, superseding any transfer in flight (42_scanline_transfer.md R201,
R202). -/
def armTransfer (s : State) : State :=
  let r := row s.params (lineOf s) s.geom.height.toNat
  let src := rowAddr s.params (lineOf s) s.geom.height.toNat s.fb.base.toNat s.geom.bytesPerRow.toNat
  let armed := setDmaSrc { s with dma := { s.dma with len := s.geom.bytesPerRow, active := true } } src
  emit armed (.arm s.now (lineOf s) r src s.geom.bytesPerRow.toNat)

/-- SYNC1_START (R163): LINE advances first, and the pulse is chosen on the new line. -/
def execSync1Start (s : State) : Host.Outcome State Fault Refusal :=
  let l := nextLine (lineOf s)
  let d := if vis l || !longSync1 l then s.geom.dShortOn else s.geom.dLongOn
  .next (programTimer (driveSync (setLine s l) false) d .sync1End)

/-- SYNC1_END (R164). -/
def execSync1End (s : State) : Host.Outcome State Fault Refusal :=
  let up := driveSync s true
  if vis (lineOf s) then .next (programTimer up s.geom.dFrontPorch .vidStart)
  else .next (programTimer up (if longSync1 (lineOf s) then s.geom.dLongOff else s.geom.dShortOff) .sync2Start)

/-- VID_START (R165): a mapped line switches the video pin to SERIAL and arms its transfer; another line changes neither
(42_scanline_transfer.md R203). -/
def execVidStart (s : State) : Host.Outcome State Fault Refusal :=
  let ready := if mapped s.params (lineOf s) then armTransfer (switchVideo s .serial) else s
  .next (programTimer ready s.geom.dActive .vidBackporch)

/-- VID_BACKPORCH (R166): the video pin is released to PLAIN; a transfer in flight goes on. -/
def execVidBackporch (s : State) : Host.Outcome State Fault Refusal :=
  .next (programTimer (switchVideo s .plain) s.geom.dBackPorch .sync1Start)

/-- SYNC2_START (R167). -/
def execSync2Start (s : State) : Host.Outcome State Fault Refusal :=
  let d := if longSync2 (lineOf s) then s.geom.dLongOn else s.geom.dShortOn
  .next (programTimer (driveSync s false) d .sync2End)

/-- SYNC2_END (R168): the gap follows the SYNC1 predicate of the current line, as 90_conflicts.md C1 has it. -/
def execSync2End (s : State) : Host.Outcome State Fault Refusal :=
  let d := if longSync1 (lineOf s) then s.geom.dLongOff else s.geom.dShortOff
  .next (programTimer (driveSync s true) d .sync1Start)

/-- A reserved phase (R169): the expiry raises BAD_PHASE. -/
def execReservedPhase (_low : Bool) (s : State) : Host.Outcome State Fault Refusal :=
  .next (raiseFault s badPhase)

/-- The expiry dispatch: exactly one transition, the one PHASE selects (R161). -/
def takeTransition (s : State) : Host.Outcome State Fault Refusal :=
  match Phase.ofCode s.seq.phase with
  | .sync1Start => execSync1Start s
  | .sync1End => execSync1End s
  | .vidStart => execVidStart s
  | .vidBackporch => execVidBackporch s
  | .sync2Start => execSync2Start s
  | .sync2End => execSync2End s
  | .reserved low => execReservedPhase low s

/-- The ticks left after this one: `max(TMR_COUNT, 1) - 1` (R160). -/
def ticksLeft (s : State) : Nat := max s.tmr.count.toNat 1 - 1

/-- This tick is an expiry: the timer runs and no tick is left (R160). -/
def expires (s : State) : Bool := s.tmr.ctrl.run && ticksLeft s == 0

/-- TICK (R160). An expiry with the interrupt disabled repeats the period (R171). -/
def execTick (s : State) : Host.Outcome State Fault Refusal :=
  let ticked := countTick s
  if s.tmr.ctrl.run then
    if ticksLeft s = 0 then
      if s.tmr.ctrl.irqEn then takeTransition ticked
      else .next (setCount ticked s.tmr.period)
    else .next (setCount ticked (BitVec.ofNat 32 (ticksLeft s)))
  else .next ticked

end Machine
end Sys2Proof
end

