-- ==== Sys2Proof/Machine/Dispatch.lean ====
section
/-! DEFINITION. One arm per instruction. -/

namespace Sys2Proof
namespace Machine

def exec (i : Instr) (s : State) : Host.Outcome State Fault Refusal :=
  match i with
  | .sync1Start => Sys2Proof.Machine.execSync1Start s
  | .sync1End => Sys2Proof.Machine.execSync1End s
  | .vidStart => Sys2Proof.Machine.execVidStart s
  | .vidBackporch => Sys2Proof.Machine.execVidBackporch s
  | .sync2Start => Sys2Proof.Machine.execSync2Start s
  | .sync2End => Sys2Proof.Machine.execSync2End s
  | .reservedPhase low => Sys2Proof.Machine.execReservedPhase low s
  | .configure vpin spin bitord width height => Sys2Proof.Machine.execConfigure vpin spin bitord width height s
  | .teardown => Sys2Proof.Machine.execTeardown s
  | .rdreg regno => Sys2Proof.Machine.execRdreg regno s
  | .reservedCmd word0 => Sys2Proof.Machine.execReservedCmd word0 s
  | .tick => Sys2Proof.Machine.execTick s
  | .dmaByte => Sys2Proof.Machine.execDmaByte s
  | .extHalt => Sys2Proof.Machine.execExtHalt s
  | .hostWrite addr value => Sys2Proof.Machine.execHostWrite addr value s
  | .hostCmd word0 word1 => Sys2Proof.Machine.execHostCmd word0 word1 s
  | .reservedEvt101 => Sys2Proof.Machine.execReservedEvt101 s
  | .reservedEvt11x low => Sys2Proof.Machine.execReservedEvt11x low s

end Machine
end Sys2Proof
end

