-- ==== Sys2Proof/Machine/Step.lean ====
section
/-! DEFINITION. One step: the next scheduled step is decoded and run. -/

namespace Sys2Proof
namespace Machine

/-- One step of one agent. The order of the agents' steps is free in the spec (60_exceptions.md R267): `State.script` holds the
order, and a statement over every state is a statement over every order. -/
def step (s : State) : Host.Outcome State Fault Refusal :=
  match nextInstr s with
  | .ok i => exec i (takeScheduled s)
  | .error r => .refused (.undecodable r)

/-- `s` with an instruction of the opcode table where the next step takes it from. A phase code goes into PHASE with an expiry
due at the next tick; command words go to the front of the script as a HOST_CMD event. -/
def State.withFetchWord (s : State) (nbits w : Nat) : State :=
  match tableSpace nbits with
  | .phase => expireInPhase s (BitVec.ofNat 3 w)
  | .cmd => schedule s (4#32 :: tableWords nbits w)
  | .evt => schedule s (tableWords nbits w)

end Machine
end Sys2Proof
end

