-- ==== Sys2Proof/Safety.lean ====
section
/-! DEFINITION. What counts as a good state and a good run: the invariants of 10_state.md R53 with those of R35 to R39, runs of
several steps, and the launch premises of 70_reset_and_hazards.md R303. -/

namespace Sys2Proof
namespace Machine

/-! ### The invariant -/

/-- The invariants of a reachable state: R53's nine, with the session invariants of R35, R36 and R37, the timer's of R39, and
the facts of R48, R260 and R102 that no fault is ever raised and no reserved status ever stands in STATUS. -/
structure Inv (s : State) : Prop where
  /-- R53.1. -/
  phaseLegal : s.seq.phase.toNat ≤ 5
  /-- R53.2. -/
  lineLegal : lineOf s ≤ 624
  /-- R53.3. -/
  idle : s.ctl.active = false →
    s.tmr.ctrl = ⟨false, false⟩ ∧ s.dma.active = false ∧ s.pins.syncDriven = false ∧ s.pins.videoDriven = false
  /-- R53.4. -/
  running : s.tmr.ctrl.run = true → s.ctl.active = true ∧ s.tmr.ctrl.irqEn = true
  /-- R53.5. -/
  transfer : s.dma.active = true →
    1 ≤ s.dma.len.toNat ∧ s.dma.len.toNat ≤ s.geom.bytesPerRow.toNat ∧ s.fb.base.toNat ≤ s.dma.src.toNat ∧
      s.dma.src.toNat + s.dma.len.toNat ≤ s.fb.base.toNat + s.fb.size.toNat
  /-- R53.6. -/
  noTransfer : s.dma.active = false → s.dma.len = 0#14
  /-- R53.7. -/
  visiblePhase : s.seq.phase = 2#3 ∨ s.seq.phase = 3#3 → vis (lineOf s) = true
  /-- R53.8. -/
  blankPhase : s.seq.phase = 4#3 ∨ s.seq.phase = 5#3 → vis (lineOf s) = false
  /-- R53.9. -/
  serialPhase : s.pins.videoMode = .serial → s.seq.phase = 3#3 ∧ mapped s.params (lineOf s) = true
  /-- R35. -/
  geometry : s.ctl.active = true →
    s.geom.widthPx.toNat % 8 = 0 ∧ 8 ≤ s.geom.widthPx.toNat ∧
      s.geom.bytesPerRow.toNat = s.geom.widthPx.toNat / 8 ∧ 1 ≤ s.geom.height.toNat
  /-- R36. -/
  durations : s.ctl.active = true →
    1 ≤ s.geom.ticksPerLine.toNat ∧ 1 ≤ s.geom.dShortOn.toNat ∧ 1 ≤ s.geom.dShortOff.toNat ∧
      1 ≤ s.geom.dLongOn.toNat ∧ 1 ≤ s.geom.dLongOff.toNat ∧ 1 ≤ s.geom.dFrontPorch.toNat ∧
      1 ≤ s.geom.dBackPorch.toNat ∧ 1 ≤ s.geom.dActive.toNat ∧
      s.geom.dShortOn.toNat + s.geom.dFrontPorch.toNat + s.geom.dActive.toNat + s.geom.dBackPorch.toNat =
        s.geom.ticksPerLine.toNat
  /-- R37. -/
  framebuffer : s.ctl.active = true →
    s.fb.size.toNat = s.geom.bytesPerRow.toNat * s.geom.height.toNat ∧
      s.fb.base.toNat + s.fb.size.toNat ≤ addressSpace s
  /-- R39. -/
  timer : s.tmr.ctrl.run = true → 1 ≤ s.tmr.count.toNat ∧ s.tmr.count.toNat ≤ s.tmr.period.toNat
  /-- R102, R264. -/
  noFault : s.ctl.fault.faulted = false
  /-- R260. -/
  statusLegal : s.ctl.status.toNat ≤ 7
  /-- R70: memory is in its form and inside the address space. -/
  memory : Memory.wf s.mem ∧ ∀ c ∈ s.mem, c.1 < addressSpace s

/-! ### Runs -/

/-- The host command an instruction performs: as the command itself, or as the HOST_CMD that carries its words
(43_host_commands.md R230). -/
def commandOf : Instr → Option Command
  | .configure vpin spin bitord w h => some (.configure vpin spin bitord w h)
  | .teardown => some .teardown
  | .rdreg regno => some (.rdreg regno)
  | .reservedCmd word0 => some (.reservedCmd word0)
  | .hostCmd word0 word1 => some (decodeCommand word0 word1)
  | .sync1Start | .sync1End | .vidStart | .vidBackporch | .sync2Start | .sync2End | .reservedPhase _ => none
  | .tick | .dmaByte | .extHalt | .hostWrite _ _ | .reservedEvt101 | .reservedEvt11x _ => none

/-- Runs instructions one after another, stopping at the first fault or refusal. -/
def execAll : List Instr → State → Host.Outcome State Fault Refusal
  | [], s => .next s
  | i :: is, s =>
    match exec i s with
    | .next t => execAll is t
    | .fault f => .fault f
    | .refused r => .refused r

/-- `n` expiries one after another, and the ticks from the first one to the one after the last: the sum of the periods they
program (41_pulse_state_machine.md R162). -/
def transitions : Nat → State → Option (State × Nat)
  | 0, s => some (s, 0)
  | n + 1, s =>
    match takeTransition s with
    | .next t => (transitions n t).map (fun r => (r.1, r.2 + t.tmr.period.toNat))
    | .fault _ => none
    | .refused _ => none

/-- The states a run from reset reaches, whatever the host memory, the parameters and the environment (CLEAN_RESET of
R303). -/
inductive Reachable : State → Prop where
  | start (s : State) : Memory.wf s.mem → (∀ c ∈ s.mem, c.1 < addressSpace s) → Reachable (powerOn s)
  | step {s t : State} : Reachable s → Sys2Proof.Machine.step s = .next t → Reachable t
  /-- The environment schedules its steps and sets its answers freely between steps (60_exceptions.md R267). -/
  | schedule {s : State} (script : List ScheduledStep) (answers : HostAnswers) :
      Reachable s → Reachable { s with script := script, answers := answers }
  /-- Reset may come at any time (70_reset_and_hazards.md R300). -/
  | reset {s : State} : Reachable s → Reachable (powerOn s)

/-- The state after `n` steps, if none of them stops. -/
def stateAfter : Nat → State → Option State
  | 0, s => some s
  | n + 1, s =>
    match step s with
    | .next t => stateAfter n t
    | .fault _ => none
    | .refused _ => none

/-- Something holds before each of the next `n` steps. -/
def throughout (P : State → Prop) (n : Nat) (s : State) : Prop := ∀ k, k < n → ∀ u, stateAfter k s = some u → P u

/-- The levels the video pin takes over the next `n` steps, in order, as far as no step stops (42_scanline_transfer.md R208). -/
def videoWave : Nat → State → List PinLevel
  | 0, _ => []
  | n + 1, s =>
    match step s with
    | .next t => videoPinDuring s t ++ videoWave n t
    | .fault _ => []
    | .refused _ => []

/-! ### The launch premises of R303. NO_HALT and FB_QUIET are premises on a step, and on an interval of `n` steps they are
`throughout` it: `throughout noHalt n s`, `throughout (fun u => fbQuiet u rows) n s`. NO_FAULT speaks of states: on a run of `n`
steps it is `throughout noFault (n + 1) s`, the last state among them. THROUGHPUT_OK on a run is `throughputOkRun`. FB_VALID
says nothing in this model: it reads whatever bytes stand at the recorded addresses (20_memory.md R85). -/

/-- CLEAN_RESET: the state is the reset state, whatever the host supplies. -/
def cleanReset (s : State) : Prop := s = powerOn s

/-- The next step is no host command. -/
def noCommandNext (s : State) : Prop := ∀ word0 word1, nextInstr s ≠ .ok (.hostCmd word0 word1)

/-- The next step is a HOST_CMD whose CONFIGURE succeeds with these answers. -/
def configuredNext (s : State) (w h : BitVec 16) (order : BitOrder) (f base : Word) : Prop :=
  ∃ vpin spin t, nextInstr s = .ok (.hostCmd (configureWord0 vpin spin order.bit) (configureWord1 w h)) ∧
    (takeScheduled s).answers = ⟨some base, some f⟩ ∧ step s = .next t ∧ t.ctl.active = true ∧ t.ctl.status = 0#8

/-- CONFIGURED(w, h, order, f, base) on a run of `n` steps: its first host command is a CONFIGURE that succeeds with these
answers. Ticks, host writes and any other step may come before it. -/
def configured (n : Nat) (s : State) (w h : BitVec 16) (order : BitOrder) (f base : Word) : Prop :=
  ∃ k u, k < n ∧ stateAfter k s = some u ∧ throughout noCommandNext k s ∧ configuredNext u w h order f base

/-- NO_FAULT. -/
def noFault (s : State) : Prop := s.ctl.fault.faulted = false

/-- NO_HALT: the next step is no EXT_HALT and no TEARDOWN. -/
def noHalt (s : State) : Prop :=
  nextInstr s ≠ .ok .extHalt ∧
    ∀ word0 word1, nextInstr s = .ok (.hostCmd word0 word1) → decodeCommand word0 word1 ≠ .teardown

/-- THROUGHPUT_OK (42_scanline_transfer.md R210) on the next step: it does not cut a transfer short. When it is an expiry or a
TEARDOWN, no transfer is in flight any more. R210 speaks of the expiry only; the TEARDOWN is DESIGN CHOICE, log entry 17. -/
def throughputOk (s : State) : Prop :=
  (nextInstr s = .ok .tick → expires s = true → s.dma.active = false) ∧
    ∀ word0 word1, nextInstr s = .ok (.hostCmd word0 word1) → decodeCommand word0 word1 = .teardown → s.dma.active = false

/-- THROUGHPUT_OK on a run of `n` steps: every transfer of the run takes all its bytes, before an expiry, before a TEARDOWN, and
before the run ends. That a transfer which no expiry follows (a stopped timer, the end of the run, a reset after it) must take
them too is the model's reading of R210: DESIGN CHOICE, log entry 17. -/
def throughputOkRun (n : Nat) (s : State) : Prop :=
  throughout throughputOk n s ∧ ∀ t, stateAfter n s = some t → t.dma.active = false

/-- How many bytes of the row being shown are left after one event, with `left` before it: `none` where the event breaks a row,
a byte that is lost or is no byte of a row, or an arm or an event of the sequencer, of TEARDOWN or of a fault with bytes left. -/
def eventLeft (left : Nat) : TraceEvent → Option Nat
  | .arm _ _ _ _ len => if left = 0 then some len else none
  | .pix _ _ _ => if left = 0 then none else some (left - 1)
  | .lost _ _ => none
  | .sync _ _ | .vmode _ _ | .down _ | .fault _ _ => if left = 0 then some 0 else none
  | .cfg _ _ | .halt _ => some left

/-- How many bytes of the row being shown are left after a trace. Where it answers `some 0` from 0, every row that was armed was
shown whole, byte by byte, and nothing was lost or superseded (R210). -/
def bytesLeft : Nat → List TraceEvent → Option Nat
  | left, [] => some left
  | left, e :: es =>
    match eventLeft left e with
    | some left' => bytesLeft left' es
    | none => none

/-- FB_QUIET(rows): the next step writes no byte of the named rows of the framebuffer. -/
def fbQuiet (s : State) (rows : List Nat) : Prop :=
  ∀ addr value, nextInstr s = .ok (.hostWrite addr value) → ∀ r ∈ rows,
    addr.toNat < s.fb.base.toNat + r * s.geom.bytesPerRow.toNat ∨
      s.fb.base.toNat + (r + 1) * s.geom.bytesPerRow.toNat ≤ addr.toNat

end Machine
end Sys2Proof
end

