-- ==== Sys2Proof/WellFormed.lean ====
section
/-! DEFINITION. Which terms of `Instr` stand for an encoding: a reserved command is a word no other row matches, and a
one-word command carries no second word (30_encoding.md R103, R108). -/

namespace Sys2Proof

/-- The well-formed instructions. Two checks can fail: a reserved command must be a word that no other row matches, and a
host command whose opcode takes one word must carry the zero word in place of a second. -/
def Instr.wf : Instr → Bool
  | .reservedCmd word0 => isReservedWord word0
  | .hostCmd word0 word1 => opcode word0 == 0x01#8 || word1 == 0#32
  | .sync1Start | .sync1End | .vidStart | .vidBackporch | .sync2Start | .sync2End | .reservedPhase _ => true
  | .configure _ _ _ _ _ | .teardown | .rdreg _ => true
  | .tick | .dmaByte | .extHalt | .hostWrite _ _ | .reservedEvt101 | .reservedEvt11x _ => true

end Sys2Proof
end

