-- ==== Sys2Proof/Certificates/Slice0/Obligations.lean ====
section
/-! DEFINITION. The statements for the provers. A rule R<n> is one of spec/. `results` is the model's record of the result port
(log entry 11); where a statement leaves a register's value open (`a`, `n`, `d`, `g` bound by an exists), that value is one of
the model's free values or one of its counters (log entries 7 and 8), and the statement says when it is not free. -/

open Sys2Proof Sys2Proof.Machine

/-! ### The Line/Field Sequencer -/

/-- R150: the classification of every line index 0 to 624, with the default field base and allowance. -/
def Obligations.LineClassification : Prop :=
  ∀ (p : Params) (l : Nat), p.field2Base = 312 → p.vblankAllow = 5 → l ≤ 624 →
    (l = 0 ∨ l = 1 → vis l = false ∧ longSync1 l = true ∧ longSync2 l = true ∧ mapped p l = false) ∧
    (l = 2 → vis l = false ∧ longSync1 l = true ∧ longSync2 l = false ∧ mapped p l = false) ∧
    (l = 3 ∨ l = 4 → vis l = false ∧ longSync1 l = false ∧ longSync2 l = false ∧ mapped p l = false) ∧
    (5 ≤ l ∧ l ≤ 274 → vis l = true ∧ longSync1 l = false ∧ longSync2 l = false ∧ mapped p l = true) ∧
    (275 ≤ l ∧ l ≤ 309 → vis l = true ∧ longSync1 l = false ∧ longSync2 l = false ∧ mapped p l = false) ∧
    (l = 310 ∨ l = 311 → vis l = false ∧ longSync1 l = false ∧ longSync2 l = false ∧ mapped p l = false) ∧
    (l = 312 → vis l = false ∧ longSync1 l = false ∧ longSync2 l = true ∧ mapped p l = false) ∧
    (l = 313 ∨ l = 314 → vis l = false ∧ longSync1 l = true ∧ longSync2 l = true ∧ mapped p l = false) ∧
    (l = 315 ∨ l = 316 → vis l = false ∧ longSync1 l = false ∧ longSync2 l = false ∧ mapped p l = false) ∧
    (317 ≤ l ∧ l ≤ 586 → vis l = true ∧ longSync1 l = false ∧ longSync2 l = false ∧ mapped p l = true) ∧
    (587 ≤ l ∧ l ≤ 622 → vis l = true ∧ longSync1 l = false ∧ longSync2 l = false ∧ mapped p l = false) ∧
    (l = 623 ∨ l = 624 → vis l = false ∧ longSync1 l = false ∧ longSync2 l = false ∧ mapped p l = false)

/-- R149: the four laws of the family. Laws 1 to 3 hold for every parameter choice, law 4 with the defaults. -/
def Obligations.SequencerLaws : Prop :=
  (∀ l, l ≤ 624 → (vis l = true ↔ (5 ≤ l ∧ l ≤ 309) ∨ (317 ≤ l ∧ l ≤ 622))) ∧
  (∀ l, vis l = true → longSync1 l = false ∧ longSync2 l = false) ∧
  (∀ (p : Params) (l l' h : Nat), mapped p l = true → mapped p l' = true →
    (lineInField p l ≤ lineInField p l' → row p l h ≤ row p l' h) ∧ (1 ≤ h → row p l h ≤ h - 1)) ∧
  (∀ (p : Params) (l h : Nat), p.field2Base = 312 → p.vblankAllow = 5 → 5 ≤ l → l ≤ 274 →
    lineInField p l = lineInField p (l + 312) ∧ row p l h = row p (l + 312) h)

/-- R147 and R148: the row of a mapped line, its address, and that the row lies inside the framebuffer. -/
def Obligations.RowAndRowAddress : Prop :=
  ∀ (p : Params) (l h base bpr : Nat), mapped p l = true → 1 ≤ h →
    (row p l h : Int) = lineInField p l * h / 270 ∧
    row p l h < h ∧
    rowAddr p l h base bpr = base + row p l h * bpr ∧
    rowAddr p l h base bpr + bpr ≤ base + bpr * h

/-! ### The tick -/

/-- R160 and R171: one tick of the timer in each of its cases; the expiry with the interrupt enabled is R161's statement, and
the last clause says that a tick always completes. -/
def Obligations.TickStep : Prop :=
  (∀ s : State, s.tmr.ctrl.run = false → exec .tick s = .next { s with now := s.now + 1 }) ∧
  (∀ s : State, s.tmr.ctrl.run = true → 2 ≤ s.tmr.count.toNat →
    exec .tick s = .next { s with now := s.now + 1, tmr := { s.tmr with count := s.tmr.count - 1#32 } }) ∧
  (∀ s : State, s.tmr.ctrl.run = true → s.tmr.count.toNat ≤ 1 → s.tmr.ctrl.irqEn = false →
    exec .tick s = .next { s with now := s.now + 1, tmr := { s.tmr with count := s.tmr.period } }) ∧
  (∀ s : State, s.tmr.ctrl.run = true → s.tmr.count.toNat ≤ 1 → s.tmr.ctrl.irqEn = true →
    exec .tick s = exec (Phase.ofCode s.seq.phase).toInstr { s with now := s.now + 1 }) ∧
  (∀ s : State, ∃ t, exec .tick s = .next t ∧ t.now = s.now + 1)

/-- R161: an expiry with IRQ_EN = 1 takes exactly the transition of the code in PHASE. -/
def Obligations.ExpiryDispatch : Prop :=
  ∀ s : State, s.tmr.ctrl.run = true → s.tmr.count.toNat ≤ 1 → s.tmr.ctrl.irqEn = true →
    (s.seq.phase = 0#3 → exec .tick s = exec .sync1Start { s with now := s.now + 1 }) ∧
    (s.seq.phase = 1#3 → exec .tick s = exec .sync1End { s with now := s.now + 1 }) ∧
    (s.seq.phase = 2#3 → exec .tick s = exec .vidStart { s with now := s.now + 1 }) ∧
    (s.seq.phase = 3#3 → exec .tick s = exec .vidBackporch { s with now := s.now + 1 }) ∧
    (s.seq.phase = 4#3 → exec .tick s = exec .sync2Start { s with now := s.now + 1 }) ∧
    (s.seq.phase = 5#3 → exec .tick s = exec .sync2End { s with now := s.now + 1 }) ∧
    (s.seq.phase = 6#3 → exec .tick s = exec (.reservedPhase false) { s with now := s.now + 1 }) ∧
    (s.seq.phase = 7#3 → exec .tick s = exec (.reservedPhase true) { s with now := s.now + 1 })

/-- R162: the next expiry comes exactly TMR_COUNT ticks later: until then every tick only counts, and that tick takes the
transition PHASE selects. -/
def Obligations.NextExpiryAfterCountTicks : Prop :=
  ∀ s : State, s.tmr.ctrl.run = true → 1 ≤ s.tmr.count.toNat →
    (∀ k, k < s.tmr.count.toNat →
      execAll (List.replicate k .tick) s =
        .next { s with
          now := s.now + k, tmr := { s.tmr with count := BitVec.ofNat 32 (s.tmr.count.toNat - k) } }) ∧
    (s.tmr.ctrl.irqEn = true →
      execAll (List.replicate s.tmr.count.toNat .tick) s =
        exec (Phase.ofCode s.seq.phase).toInstr
          { s with now := s.now + s.tmr.count.toNat, tmr := { s.tmr with count := 1#32 } })

/-! ### The transitions -/

/-- R163: the whole next state of SYNC1_START. -/
def Obligations.Sync1StartTransition : Prop :=
  ∀ (s : State) (l : Nat) (d : Word),
    l = (if s.seq.line.toNat + 1 > 624 then 0 else s.seq.line.toNat + 1) →
    d = (if vis l = true ∨ longSync1 l = false then s.geom.dShortOn else s.geom.dLongOn) →
    exec .sync1Start s = .next { s with
      seq := { phase := 1#3, line := BitVec.ofNat 10 l }
      pins := { s.pins with syncLevel := false }
      tmr := { s.tmr with period := d, count := d }
      trace := s.trace ++ [.sync s.now false] }

/-- R164: the whole next state of SYNC1_END. -/
def Obligations.Sync1EndTransition : Prop :=
  ∀ (s : State) (d : Word) (p : BitVec 3),
    (vis s.seq.line.toNat = true → d = s.geom.dFrontPorch ∧ p = 2#3) →
    (vis s.seq.line.toNat = false →
      d = (if longSync1 s.seq.line.toNat = true then s.geom.dLongOff else s.geom.dShortOff) ∧ p = 4#3) →
    exec .sync1End s = .next { s with
      seq := { s.seq with phase := p }
      pins := { s.pins with syncLevel := true }
      tmr := { s.tmr with period := d, count := d }
      trace := s.trace ++ [.sync s.now true] }

/-- R165 and R201 on a mapped line: the pin goes to SERIAL and the row's transfer is armed, whatever was in flight (R202). DMA_SRC
is the row's address where it fits ADDR_WIDTH bits, as it does in every reachable state; `a` and `d` are the model's free
value and its count where it does not (log entry 8), `g` the model's interval counter (log entry 7). -/
def Obligations.VidStartArmsMappedLine : Prop :=
  ∀ s : State, mapped s.params s.seq.line.toNat = true → ∃ (a : Word) (d g : Nat),
    (s.fb.base.toNat + row s.params s.seq.line.toNat s.geom.height.toNat * s.geom.bytesPerRow.toNat < 2 ^ s.params.addrWidth.val →
      a.toNat = s.fb.base.toNat + row s.params s.seq.line.toNat s.geom.height.toNat * s.geom.bytesPerRow.toNat ∧ d = s.draws) ∧
    exec .vidStart s = .next { s with
      seq := { s.seq with phase := 3#3 }
      pins := { s.pins with videoMode := .serial }
      tmr := { s.tmr with period := s.geom.dActive, count := s.geom.dActive }
      dma := { src := a, len := s.geom.bytesPerRow, active := true }
      trace := s.trace ++ (if s.pins.videoMode = .plain then [.vmode s.now .serial] else []) ++
        [.arm s.now s.seq.line.toNat (row s.params s.seq.line.toNat s.geom.height.toNat)
          (s.fb.base.toNat + row s.params s.seq.line.toNat s.geom.height.toNat * s.geom.bytesPerRow.toNat)
          s.geom.bytesPerRow.toNat]
      draws := d
      gap := g }

/-- R203 (and R165's corner case): a line that is not mapped changes no pin and no transfer register. -/
def Obligations.VidStartLeavesUnmappedLineBlank : Prop :=
  ∀ s : State, mapped s.params s.seq.line.toNat = false →
    exec .vidStart s = .next { s with
      seq := { s.seq with phase := 3#3 }
      tmr := { s.tmr with period := s.geom.dActive, count := s.geom.dActive } }

/-- R166: the whole next state of VID_BACKPORCH; a transfer in flight goes on. -/
def Obligations.VidBackporchTransition : Prop :=
  ∀ s : State, exec .vidBackporch s = .next { s with
      seq := { s.seq with phase := 0#3 }
      pins := { s.pins with videoMode := .plain }
      tmr := { s.tmr with period := s.geom.dBackPorch, count := s.geom.dBackPorch }
      trace := s.trace ++ (if s.pins.videoMode = .serial then [.vmode s.now .plain] else []) }

/-- R167: the whole next state of SYNC2_START. -/
def Obligations.Sync2StartTransition : Prop :=
  ∀ (s : State) (d : Word), d = (if longSync2 s.seq.line.toNat = true then s.geom.dLongOn else s.geom.dShortOn) →
    exec .sync2Start s = .next { s with
      seq := { s.seq with phase := 5#3 }
      pins := { s.pins with syncLevel := false }
      tmr := { s.tmr with period := d, count := d }
      trace := s.trace ++ [.sync s.now false] }

/-- R168: the whole next state of SYNC2_END; its gap follows the SYNC1 predicate of the current line. -/
def Obligations.Sync2EndTransition : Prop :=
  ∀ (s : State) (d : Word), d = (if longSync1 s.seq.line.toNat = true then s.geom.dLongOff else s.geom.dShortOff) →
    exec .sync2End s = .next { s with
      seq := { s.seq with phase := 0#3 }
      pins := { s.pins with syncLevel := true }
      tmr := { s.tmr with period := d, count := d }
      trace := s.trace ++ [.sync s.now true] }

/-- R169 and R262: a reserved phase raises BAD_PHASE, and nothing but FAULT, RUN and the trace changes. -/
def Obligations.ReservedPhaseFaults : Prop :=
  ∀ (low : Bool) (s : State), exec (.reservedPhase low) s = .next { s with
      ctl := { s.ctl with fault := { faulted := true, reason := 1#4 } }
      tmr := { s.tmr with ctrl := { s.tmr.ctrl with run := false } }
      trace := s.trace ++ [.fault s.now 1#4] }

/-- R33: the successor of each phase. -/
def Obligations.PhaseSuccessor : Prop :=
  ∀ s : State, s.seq.phase.toNat ≤ 5 → ∃ t, exec (Phase.ofCode s.seq.phase).toInstr s = .next t ∧
    (s.seq.phase = 0#3 → t.seq.phase = 1#3) ∧
    (s.seq.phase = 1#3 → t.seq.phase = if vis s.seq.line.toNat = true then 2#3 else 4#3) ∧
    (s.seq.phase = 2#3 → t.seq.phase = 3#3) ∧
    (s.seq.phase = 3#3 → t.seq.phase = 0#3) ∧
    (s.seq.phase = 4#3 → t.seq.phase = 5#3) ∧
    (s.seq.phase = 5#3 → t.seq.phase = 0#3)

/-- R172: the duration every expiry programs, by phase and line class, into TMR_PERIOD and TMR_COUNT alike (R162). The line is
the one emitted after the transition, which SYNC1_START advances to. -/
def Obligations.DurationTable : Prop :=
  ∀ s t : State, s.seq.phase.toNat ≤ 5 → exec (Phase.ofCode s.seq.phase).toInstr s = .next t →
    t.tmr.count = t.tmr.period ∧
    (vis t.seq.line.toNat = true →
      (s.seq.phase = 0#3 → t.tmr.period = s.geom.dShortOn) ∧
      (s.seq.phase = 1#3 → t.tmr.period = s.geom.dFrontPorch) ∧
      (s.seq.phase = 2#3 → t.tmr.period = s.geom.dActive) ∧
      (s.seq.phase = 3#3 → t.tmr.period = s.geom.dBackPorch)) ∧
    (vis t.seq.line.toNat = false →
      (s.seq.phase = 0#3 → t.tmr.period = if longSync1 t.seq.line.toNat then s.geom.dLongOn else s.geom.dShortOn) ∧
      (s.seq.phase = 1#3 → t.tmr.period = if longSync1 t.seq.line.toNat then s.geom.dLongOff else s.geom.dShortOff) ∧
      (s.seq.phase = 4#3 → t.tmr.period = if longSync2 t.seq.line.toNat then s.geom.dLongOn else s.geom.dShortOn) ∧
      (s.seq.phase = 5#3 → t.tmr.period = if longSync1 t.seq.line.toNat then s.geom.dLongOff else s.geom.dShortOff))

/-- R175: four transitions close the cycle and advance LINE by one, 2500 transitions bring LINE and PHASE back, and LINE never
exceeds 624. -/
def Obligations.CycleClosure : Prop :=
  ∀ s : State, s.seq.phase = 0#3 → s.seq.line.toNat ≤ 624 →
    (∃ t n, transitions 4 s = some (t, n) ∧ t.seq.phase = 0#3 ∧
      t.seq.line.toNat = (if s.seq.line.toNat = 624 then 0 else s.seq.line.toNat + 1)) ∧
    (∀ k t n, 1 ≤ k → k ≤ 3 → transitions k s = some (t, n) → t.seq.phase ≠ 0#3) ∧
    (∃ t n, transitions 2500 s = some (t, n) ∧ t.seq = s.seq) ∧
    (∀ k t n, transitions k s = some (t, n) → t.seq.line.toNat ≤ 624)

/-- R173: how long each class of line lasts, from its SYNC1_START to the next. -/
def Obligations.LineLengths : Prop :=
  ∀ s : State, s.seq.phase = 0#3 → s.seq.line.toNat ≤ 624 → ∃ t n, transitions 4 s = some (t, n) ∧
    (vis t.seq.line.toNat = true →
      n = s.geom.dShortOn.toNat + s.geom.dFrontPorch.toNat + s.geom.dActive.toNat + s.geom.dBackPorch.toNat ∧
      (Inv s → s.ctl.active = true → n = s.geom.ticksPerLine.toNat)) ∧
    (vis t.seq.line.toNat = false → longSync1 t.seq.line.toNat = false → longSync2 t.seq.line.toNat = false →
      n = 2 * (s.geom.dShortOn.toNat + s.geom.dShortOff.toNat)) ∧
    (longSync1 t.seq.line.toNat = true → longSync2 t.seq.line.toNat = true →
      n = 2 * (s.geom.dLongOn.toNat + s.geom.dLongOff.toNat)) ∧
    (t.seq.line.toNat = 2 →
      n = s.geom.dLongOn.toNat + s.geom.dLongOff.toNat + s.geom.dShortOn.toNat + s.geom.dLongOff.toNat) ∧
    (t.seq.line.toNat = 312 →
      n = s.geom.dShortOn.toNat + s.geom.dShortOff.toNat + s.geom.dLongOn.toNat + s.geom.dShortOff.toNat)

/-- R174: how long a frame lasts, counted from any line's SYNC1_START to the same line's in the next frame. -/
def Obligations.FrameLength : Prop :=
  ∀ s : State, Inv s → s.ctl.active = true → s.seq.phase = 0#3 →
    s.geom.dShortOn = s.geom.dLongOff → s.geom.dShortOff = s.geom.dLongOn →
    ∃ t, transitions 2500 s =
      some (t, 611 * s.geom.ticksPerLine.toNat + 28 * (s.geom.dShortOn.toNat + s.geom.dShortOff.toNat))

/-! ### The transfer engine -/

/-- R204: a byte step is enabled exactly while a transfer is in flight and the block is not faulted; where it is not, the spec has
no step. That the model then answers the refusal notEnabled is its own choice (log entry 13). The timer has no say in it. -/
def Obligations.DmaByteEnabled : Prop :=
  ∀ s : State, exec .dmaByte s = .refused .notEnabled ↔ ¬(s.dma.active = true ∧ s.ctl.fault.faulted = false)

/-- R205: one byte of the row. `a`, `n` and `d` are the model's free values and their count where the spec states no value: an
address past the address space, a count below zero (log entry 8). `g` is the model's interval counter (log entry 7). -/
def Obligations.DmaByteMovesOneByte : Prop :=
  ∀ s : State, s.dma.active = true → s.ctl.fault.faulted = false → s.dma.src.toNat < 2 ^ s.params.addrWidth.val →
    ∃ (a : Word) (n : BitVec 14) (d g : Nat),
      (s.dma.src.toNat + 1 < 2 ^ s.params.addrWidth.val → a.toNat = s.dma.src.toNat + 1) ∧
      (1 ≤ s.dma.len.toNat → n.toNat = s.dma.len.toNat - 1) ∧
      (s.dma.src.toNat + 1 < 2 ^ s.params.addrWidth.val → 1 ≤ s.dma.len.toNat → d = s.draws) ∧
      exec .dmaByte s = .next { s with
        dma := { src := a, len := n, active := decide (s.dma.len.toNat ≠ 1) }
        trace := s.trace ++
          [if s.pins.videoMode = .serial then .pix s.now (Memory.read s.mem s.dma.src.toNat) s.ctl.bitOrder
            else .lost s.now (Memory.read s.mem s.dma.src.toNat)]
        draws := d
        gap := g }

/-- R207: a transfer left alone completes after exactly DMA_LEN byte steps: every byte of the row goes out in address order, each
shown or lost by the pin's mode, and no byte step is enabled again: the model's refusal notEnabled (log entry 13). Where the row
ends with the last address, DMA_SRC is left open (log entry 8). -/
def Obligations.TransferCompletes : Prop :=
  ∀ s : State, s.dma.active = true → s.ctl.fault.faulted = false → 1 ≤ s.dma.len.toNat →
    s.dma.src.toNat + s.dma.len.toNat ≤ 2 ^ s.params.addrWidth.val →
    ∃ t, execAll (List.replicate s.dma.len.toNat .dmaByte) s = .next t ∧
      t.dma.active = false ∧ t.dma.len = 0#14 ∧
      (s.dma.src.toNat + s.dma.len.toNat < 2 ^ s.params.addrWidth.val →
        t.dma.src.toNat = s.dma.src.toNat + s.dma.len.toNat) ∧
      t.trace = s.trace ++ (List.range s.dma.len.toNat).map (fun j =>
        if s.pins.videoMode = .serial then .pix s.now (Memory.read s.mem (s.dma.src.toNat + j)) s.ctl.bitOrder
        else .lost s.now (Memory.read s.mem (s.dma.src.toNat + j))) ∧
      exec .dmaByte t = .refused .notEnabled ∧
      t = { s with dma := t.dma, trace := t.trace, draws := t.draws, gap := t.gap }

/-- R206 over a whole row: a transfer that runs in SERIAL mode shows pixel x as pixel `x mod 8` of byte `x div 8`, bit `7 - k` of
the byte in MSB order and bit `k` in LSB order. -/
def Obligations.RowPixelOrder : Prop :=
  ∀ s t : State, s.dma.active = true → s.ctl.fault.faulted = false → 1 ≤ s.dma.len.toNat →
    s.dma.src.toNat + s.dma.len.toNat ≤ 2 ^ s.params.addrWidth.val → s.pins.videoMode = .serial →
    execAll (List.replicate s.dma.len.toNat .dmaByte) s = .next t →
    picture t.trace = picture s.trace ++ (List.range (8 * s.dma.len.toNat)).map (fun x =>
      if s.ctl.bitOrder = .msbFirst then (Memory.read s.mem (s.dma.src.toNat + x / 8)).getLsbD (7 - x % 8)
      else (Memory.read s.mem (s.dma.src.toNat + x / 8)).getLsbD (x % 8))

/-- R200: a transfer is armed in one place, the VID_START transition of a mapped line, as a direct transition or in the tick
whose expiry takes it: nothing else emits an Arm event, and nothing else sets DMA_CTRL.ACTIVE. -/
def Obligations.OnlyVidStartArms : Prop :=
  ∀ (i : Instr) (s t : State), exec i s = .next t →
    (∃ u line row' src len, TraceEvent.arm u line row' src len ∈ t.trace.drop s.trace.length) ∨
      (s.dma.active = false ∧ t.dma.active = true) →
    mapped s.params s.seq.line.toNat = true ∧
      (i = .vidStart ∨
        (i = .tick ∧ s.seq.phase = 2#3 ∧ s.tmr.ctrl.run = true ∧ s.tmr.count.toNat ≤ 1 ∧ s.tmr.ctrl.irqEn = true))

/-- R211 with R71: what one byte step leaves alone. -/
def Obligations.EngineOnlyReads : Prop :=
  ∀ s t : State, exec .dmaByte s = .next t →
    t.mem = s.mem ∧ t.seq = s.seq ∧ t.geom = s.geom ∧ t.fb = s.fb ∧ t.tmr = s.tmr ∧ t.pins = s.pins ∧ t.ctl = s.ctl

/-- R210 on one step: where the model's `throughputOk` holds and a transfer in flight has the pin in SERIAL mode, that mode
premise is kept, no byte is lost, no transfer is superseded, and the bytes left of the row being shown go down by exactly the
bytes shown. That the premise rules out an expiry with a transfer in flight is R210's; that it rules out such a TEARDOWN too is
the model's choice (log entry 17). -/
def Obligations.ThroughputOkLosesNoByte : Prop :=
  ∀ s t : State, Inv s → (s.dma.active = true → s.pins.videoMode = .serial) → throughputOk s → step s = .next t →
    (t.dma.active = true → t.pins.videoMode = .serial) ∧
    (∀ u b, TraceEvent.lost u b ∉ t.trace.drop s.trace.length) ∧
    (∀ u line row' src len, TraceEvent.arm u line row' src len ∈ t.trace.drop s.trace.length → s.dma.active = false) ∧
    bytesLeft s.dma.len.toNat (t.trace.drop s.trace.length) = some t.dma.len.toNat

/-- R210 on a run: where every transfer takes all its bytes, every row the run arms is shown whole, as Pix events, before the
sequencer emits anything else, and nothing is lost or superseded. How the model reads the premise where no expiry follows a
transfer is its own choice (log entry 17). -/
def Obligations.ThroughputOkRunShowsWholeRows : Prop :=
  ∀ (n : Nat) (s t : State), Inv s → (s.dma.active = true → s.pins.videoMode = .serial) → throughputOkRun n s →
    stateAfter n s = some t →
    s.trace <+: t.trace ∧ bytesLeft s.dma.len.toNat (t.trace.drop s.trace.length) = some 0

/-! ### The pins -/

/-- R42 and R208: the level of each pin, and the levels the video pin takes while a byte step shows a byte: the eight pixels in
order, a pixel of 1 high. Between pixels in SERIAL mode the level is a free value (log entry 7): some driven level. -/
def Obligations.PinLevels : Prop :=
  (∀ s : State,
    (s.pins.syncDriven = true → syncPin s = .driven s.pins.syncLevel) ∧
    (s.pins.syncDriven = false → syncPin s = .z) ∧
    (s.pins.videoDriven = false → videoPin s = .z) ∧
    (s.pins.videoDriven = true → s.pins.videoMode = .plain → videoPin s = .driven s.pins.videoLevel) ∧
    (s.pins.videoDriven = true → s.pins.videoMode = .serial → ∃ b, videoPin s = .driven b)) ∧
  (∀ s t : State, exec .dmaByte s = .next t →
    (s.pins.videoDriven = false → ∀ l ∈ videoPinDuring s t, l = .z) ∧
    (s.pins.videoDriven = true → s.pins.videoMode = .plain → videoPinDuring s t = [.driven s.pins.videoLevel]) ∧
    (s.pins.videoDriven = true → s.pins.videoMode = .serial → ∃ gap, videoPinDuring s t =
      (List.range 8).map (fun k => .driven (if s.ctl.bitOrder = .msbFirst
        then (Memory.read s.mem s.dma.src.toNat).getLsbD (7 - k)
        else (Memory.read s.mem s.dma.src.toNat).getLsbD k)) ++ [.driven gap]))

/-! ### The host's commands -/

/-- R230: a host command is always answered, once, and its step is the rule of the command its words select. -/
def Obligations.HostCmdIsAlwaysAnswered : Prop :=
  ∀ (word0 word1 : Word) (s : State),
    exec (.hostCmd word0 word1) s = exec (decodeCommand word0 word1).toInstr s ∧
    ∃ t r, exec (.hostCmd word0 word1) s = .next t ∧ t.results = s.results ++ [r]

/-- R231 and R232, the checks of CONFIGURE in their order: the first that fails ends the command with its status, and nothing
changes but STATUS, the trace and the port (R235, R261). Check 1 is RESERVED_CMD's statement, success the next one. -/
def Obligations.ConfigureChecksInOrder : Prop :=
  ∀ (vpin spin : BitVec 8) (bitord : Bool) (w h : BitVec 16) (s : State) (failWith : Status → Host.Outcome State Fault Refusal),
    (∀ st, failWith st = .next { s with
      ctl := { s.ctl with status := st.code }
      trace := s.trace ++ [.cfg s.now st]
      results := s.results ++ [{ status := st.code, value := 0#32 }] }) →
    (s.ctl.fault.faulted = true → exec (.configure vpin spin bitord w h) s = failWith .faulted) ∧
    (s.ctl.fault.faulted = false → s.ctl.active = true → exec (.configure vpin spin bitord w h) s = failWith .busy) ∧
    (s.ctl.fault.faulted = false → s.ctl.active = false → w = 0#16 ∨ h = 0#16 ∨ vpin = spin →
      exec (.configure vpin spin bitord w h) s = failWith .badArgument) ∧
    (s.ctl.fault.faulted = false → s.ctl.active = false → w ≠ 0#16 → h ≠ 0#16 → vpin ≠ spin →
      ((s.answers.fb = none ∨ (∃ base, s.answers.fb = some base ∧
          2 ^ s.params.addrWidth.val < base.toNat + (w.toNat + 7) / 8 * h.toNat)) →
        exec (.configure vpin spin bitord w h) s = failWith .fbAllocFailed) ∧
      (∀ base, s.answers.fb = some base → base.toNat + (w.toNat + 7) / 8 * h.toNat ≤ 2 ^ s.params.addrWidth.val →
        (s.answers.timer = none → exec (.configure vpin spin bitord w h) s = failWith .timerUnavailable) ∧
        (∀ f, s.answers.timer = some f → rateOk s.params (f.toNat / 15625) = false →
          exec (.configure vpin spin bitord w h) s = failWith .badRate)))

/-- R234: what the rate check asks, and that with the default numerators it passes exactly from 203 125 Hz, T = 13. -/
def Obligations.RateCheck : Prop :=
  (∀ (p : Params) (t : Nat), rateOk p t = true ↔
    t ≠ 0 ∧ t * p.kShortOn.val / 64 ≠ 0 ∧ t * p.kShortOff.val / 64 ≠ 0 ∧ t * p.kLongOn.val / 64 ≠ 0 ∧
      t * p.kLongOff.val / 64 ≠ 0 ∧ t * p.kFrontPorch.val / 64 ≠ 0 ∧ t * p.kBackPorch.val / 64 ≠ 0 ∧
      t * p.kShortOn.val / 64 + t * p.kFrontPorch.val / 64 + t * p.kBackPorch.val / 64 < t) ∧
  (∀ (p : Params) (f : Word), p.kShortOn = 5 → p.kShortOff = 27 → p.kLongOn = 27 → p.kLongOff = 5 → p.kFrontPorch = 8 →
    p.kBackPorch = 7 →
    (rateOk p (f.toNat / 15625) = true ↔ 13 ≤ f.toNat / 15625) ∧ (rateOk p (f.toNat / 15625) = true ↔ 203125 ≤ f.toNat))

/-- R233: a CONFIGURE whose checks pass starts a session, every register at the value the rule gives, as a natural number, so that
none was cut. -/
def Obligations.ConfigureStartsSession : Prop :=
  ∀ (vpin spin : BitVec 8) (bitord : Bool) (w h : BitVec 16) (s : State) (base f : Word) (T : Nat),
    s.ctl.fault.faulted = false → s.ctl.active = false → w ≠ 0#16 → h ≠ 0#16 → vpin ≠ spin →
    s.answers.fb = some base → base.toNat + (w.toNat + 7) / 8 * h.toNat ≤ 2 ^ s.params.addrWidth.val →
    s.answers.timer = some f → T = f.toNat / 15625 → rateOk s.params T = true →
    ∃ t, exec (.configure vpin spin bitord w h) s = .next t ∧
      t.geom.widthPx.toNat = (w.toNat + 7) / 8 * 8 ∧
      t.geom.bytesPerRow.toNat = (w.toNat + 7) / 8 ∧
      t.geom.height = h ∧
      t.fb.base = base ∧
      t.fb.size.toNat = (w.toNat + 7) / 8 * h.toNat ∧
      t.geom.ticksPerLine.toNat = T ∧
      t.geom.dShortOn.toNat = T * s.params.kShortOn.val / 64 ∧
      t.geom.dShortOff.toNat = T * s.params.kShortOff.val / 64 ∧
      t.geom.dLongOn.toNat = T * s.params.kLongOn.val / 64 ∧
      t.geom.dLongOff.toNat = T * s.params.kLongOff.val / 64 ∧
      t.geom.dFrontPorch.toNat = T * s.params.kFrontPorch.val / 64 ∧
      t.geom.dBackPorch.toNat = T * s.params.kBackPorch.val / 64 ∧
      t.geom.dActive.toNat + t.geom.dShortOn.toNat + t.geom.dFrontPorch.toNat + t.geom.dBackPorch.toNat = T ∧
      t.pins = { syncLevel := true, syncDriven := true, videoMode := .plain, videoDriven := true,
                 videoLevel := s.params.videoIdleLevel, vpin := vpin, spin := spin } ∧
      t.dma = { src := 0#32, len := 0#14, active := false } ∧
      t.seq.phase = 0#3 ∧ t.seq.line.toNat = s.params.initLine.val ∧
      t.tmr.period.toNat = T ∧ t.tmr.count.toNat = T ∧ t.tmr.ctrl = { run := true, irqEn := true } ∧
      t.ctl = { status := 0#8, active := true, bitOrder := if bitord then .lsbFirst else .msbFirst, fault := s.ctl.fault } ∧
      t = { s with
        seq := t.seq, geom := t.geom, fb := t.fb, tmr := t.tmr, pins := t.pins, dma := t.dma, ctl := t.ctl
        trace := s.trace ++ [.cfg s.now .ok]
        results := s.results ++ [{ status := 0#8, value := base }] }

/-- R236: TEARDOWN refused in the faulted state, else every register but FAULT at its reset value. R236's listing leaves out
TMR_PERIOD and TMR_COUNT; that they are cleared is R38's and R39's (log entry 14). -/
def Obligations.TeardownResult : Prop :=
  ∀ s : State,
    (s.ctl.fault.faulted = true → exec .teardown s = .next { s with
      ctl := { s.ctl with status := 7#8 }
      results := s.results ++ [{ status := 7#8, value := 0#32 }] }) ∧
    (s.ctl.fault.faulted = false → ∃ t, exec .teardown s = .next t ∧
      (∀ r : BitVec 8, r.toNat ≤ 0x1A → r ≠ 0x19#8 → readRegister t r = some 0#32) ∧
      t.ctl.fault = s.ctl.fault ∧
      t = { s with
        seq := t.seq, geom := t.geom, fb := t.fb, tmr := t.tmr, pins := t.pins, dma := t.dma, ctl := t.ctl
        trace := s.trace ++ [.down s.now]
        results := s.results ++ [{ status := 0#8, value := 0#32 }] })

/-- R237 and R50: RDREG answers the register its number selects, zero-extended, in every state, and changes no register; a
reserved number is BAD_COMMAND. The list is the table of R49 in its order. -/
def Obligations.RdregAnswersRegister : Prop :=
  ∀ (s : State) (regno : BitVec 8) (file : List Nat),
    file = [s.ctl.status.toNat, s.ctl.active.toNat, s.seq.phase.toNat, s.seq.line.toNat,
      s.geom.widthPx.toNat, s.geom.bytesPerRow.toNat, s.geom.height.toNat, s.geom.ticksPerLine.toNat,
      s.geom.dShortOn.toNat, s.geom.dShortOff.toNat, s.geom.dLongOn.toNat, s.geom.dLongOff.toNat,
      s.geom.dFrontPorch.toNat, s.geom.dBackPorch.toNat, s.geom.dActive.toNat, s.fb.base.toNat,
      s.tmr.period.toNat, s.tmr.count.toNat, s.tmr.ctrl.run.toNat + 2 * s.tmr.ctrl.irqEn.toNat,
      s.pins.syncLevel.toNat + 2 * s.pins.syncDriven.toNat + (if s.pins.videoMode = .serial then 4 else 0) +
        8 * s.pins.videoDriven.toNat + 16 * s.pins.videoLevel.toNat,
      s.dma.src.toNat, s.dma.len.toNat, s.dma.active.toNat, s.pins.vpin.toNat + 256 * s.pins.spin.toNat,
      (if s.ctl.bitOrder = .lsbFirst then 1 else 0), s.ctl.fault.faulted.toNat + 16 * s.ctl.fault.reason.toNat,
      s.fb.size.toNat] →
    (∀ v, file[regno.toNat]? = some v →
      exec (.rdreg regno) s = .next { s with results := s.results ++ [{ status := 0#8, value := BitVec.ofNat 32 v }] }) ∧
    (0x1B ≤ regno.toNat →
      exec (.rdreg regno) s = .next { s with results := s.results ++ [{ status := 1#8, value := 0#32 }] })

/-- R238 and R108: every reserved or illegal command word is answered BAD_COMMAND and changes nothing. -/
def Obligations.ReservedCommandIsRejected : Prop :=
  ∀ (word0 word1 : Word) (s : State),
    exec (.reservedCmd word0) s = .next { s with results := s.results ++ [{ status := 1#8, value := 0#32 }] } ∧
    ((word0.toNat / 2 ^ 24 ≠ 1 ∧ word0.toNat / 2 ^ 24 ≠ 2 ∧ word0.toNat / 2 ^ 24 ≠ 3) ∨
        (word0.toNat / 2 ^ 24 = 1 ∧ word0.toNat / 2 % 2 ^ 7 ≠ 0) ∨
        (word0.toNat / 2 ^ 24 = 2 ∧ word0.toNat % 2 ^ 24 ≠ 0) ∨
        (word0.toNat / 2 ^ 24 = 3 ∧ word0.toNat / 2 ^ 8 % 2 ^ 16 ≠ 0) →
      exec (.hostCmd word0 word1) s = .next { s with results := s.results ++ [{ status := 1#8, value := 0#32 }] })

/-- R243: two successful CONFIGUREs with the same geometry, bit order and timer frequency, each from ACTIVE = 0, leave the same
value in every register, but for FB_BASE, which is the provider's answer to each, the pin identifiers each was given (R43), and
FAULT, which no CONFIGURE writes (R48). -/
def Obligations.ConfigureIsIdempotent : Prop :=
  ∀ (vpin spin vpin' spin' : BitVec 8) (bitord : Bool) (w h : BitVec 16) (s s' t t' : State),
    s.ctl.active = false → s'.ctl.active = false → s.params = s'.params → s.answers.timer = s'.answers.timer →
    exec (.configure vpin spin bitord w h) s = .next t → exec (.configure vpin' spin' bitord w h) s' = .next t' →
    t.ctl.active = true → t'.ctl.active = true →
    t.geom = t'.geom ∧ t.seq = t'.seq ∧ t.tmr = t'.tmr ∧ t.dma = t'.dma ∧
      t.pins = { t'.pins with vpin := vpin, spin := spin } ∧ t'.pins = { t.pins with vpin := vpin', spin := spin' } ∧
      t.ctl = { t'.ctl with fault := s.ctl.fault } ∧ t'.ctl = { t.ctl with fault := s'.ctl.fault } ∧
      t.fb.size = t'.fb.size ∧ s.answers.fb = some t.fb.base ∧ s'.answers.fb = some t'.fb.base

/-- R260: an instruction either answers nothing and leaves STATUS alone or gives one answer with one of the eight codes, and
STATUS is then as before or that code. -/
def Obligations.StatusCodesProduced : Prop :=
  ∀ (i : Instr) (s t : State), exec i s = .next t →
    (t.results = s.results ∧ t.ctl.status = s.ctl.status) ∨
    ∃ r : CommandResult, t.results = s.results ++ [r] ∧ r.status.toNat ≤ 7 ∧
      (t.ctl.status = s.ctl.status ∨ t.ctl.status = r.status)

/-! ### The host's events -/

/-- R240: EXT_HALT clears RUN where the timer runs; where it does not, the spec has no step, and
the model answers the refusal notEnabled, its own choice (log entry 13). -/
def Obligations.ExtHaltResult : Prop :=
  ∀ s : State,
    (s.tmr.ctrl.run = true → exec .extHalt s = .next { s with
      tmr := { s.tmr with ctrl := { s.tmr.ctrl with run := false } }
      trace := s.trace ++ [.halt s.now] }) ∧
    (s.tmr.ctrl.run = false → exec .extHalt s = .refused .notEnabled)

/-- R240 and R275: while the timer is stopped the outputs are frozen. Ticks only count, no step but CONFIGURE and TEARDOWN changes
PHASE, LINE or the pins (a phase transition is no step of its own: an expiry takes it), and nothing but a CONFIGURE outside a
session starts the timer again. -/
def Obligations.StoppedTimerFreezesOutputs : Prop :=
  (∀ (s : State) (n : Nat), s.tmr.ctrl.run = false →
    execAll (List.replicate n .tick) s = .next { s with now := s.now + n }) ∧
  (∀ (i : Instr) (s t : State), s.tmr.ctrl.run = false → exec i s = .next t → i.space ≠ .phase →
    (∀ vpin spin bitord w h, commandOf i ≠ some (.configure vpin spin bitord w h)) → commandOf i ≠ some .teardown →
    t.seq = s.seq ∧ t.pins = s.pins) ∧
  (∀ (i : Instr) (s t : State), s.tmr.ctrl.run = false → exec i s = .next t → t.tmr.ctrl.run = true →
    s.ctl.active = false ∧ ∃ vpin spin bitord w h, commandOf i = some (.configure vpin spin bitord w h))

/-- R241 and R75: the host's write stores one byte and changes nothing else. -/
def Obligations.HostWriteStoresOneByte : Prop :=
  ∀ (addr : Word) (value : Byte) (s : State), Memory.wf s.mem → addr.toNat < 2 ^ s.params.addrWidth.val →
    ∃ t, exec (.hostWrite addr value) s = .next t ∧
      Memory.read t.mem addr.toNat = value ∧
      (∀ b, b ≠ addr.toNat → Memory.read t.mem b = Memory.read s.mem b) ∧
      t = { s with mem := t.mem }

/-- The model's own stop (log entry 3): an address past the address space names no byte (R70). No run reaches it in a byte step,
and with ADDR_WIDTH 32 no word is such an address. -/
def Obligations.AddressOutsideSpaceStops : Prop :=
  (∀ (addr : Word) (value : Byte) (s : State), 2 ^ s.params.addrWidth.val ≤ addr.toNat →
    exec (.hostWrite addr value) s = .fault .outsideAddressSpace) ∧
  (∀ s : State, s.dma.active = true → s.ctl.fault.faulted = false → 2 ^ s.params.addrWidth.val ≤ s.dma.src.toNat →
    exec .dmaByte s = .fault .outsideAddressSpace)

/-- R71: nothing but the host's write changes memory. -/
def Obligations.OnlyHostWritesMemory : Prop :=
  ∀ (i : Instr) (s t : State), exec i s = .next t → t.mem ≠ s.mem → ∃ addr value, i = .hostWrite addr value

/-- R111: the event codes, and that a reserved code names no step. The operand words after a code are the model's layout (log
entry 6). -/
def Obligations.EventCodes : Prop :=
  (∀ rest, decode .evt (0#32 :: rest) = .ok (.tick, rest)) ∧
  (∀ rest, decode .evt (1#32 :: rest) = .ok (.dmaByte, rest)) ∧
  (∀ rest, decode .evt (2#32 :: rest) = .ok (.extHalt, rest)) ∧
  (∀ addr (value : Byte) rest, decode .evt (3#32 :: addr :: value.setWidth 32 :: rest) = .ok (.hostWrite addr value, rest)) ∧
  (∀ word0 word1 rest, commandWords word0 = 2 →
    decode .evt (4#32 :: word0 :: word1 :: rest) = .ok (.hostCmd word0 word1, rest)) ∧
  (∀ word0 rest, commandWords word0 = 1 → decode .evt (4#32 :: word0 :: rest) = .ok (.hostCmd word0 0#32, rest)) ∧
  (∀ rest, decode .evt (5#32 :: rest) = .ok (.reservedEvt101, rest)) ∧
  (∀ rest, decode .evt (6#32 :: rest) = .ok (.reservedEvt11x false, rest)) ∧
  (∀ rest, decode .evt (7#32 :: rest) = .ok (.reservedEvt11x true, rest)) ∧
  (∀ s, exec .reservedEvt101 s = .refused (.reservedEvent 5#3)) ∧
  (∀ s, exec (.reservedEvt11x false) s = .refused (.reservedEvent 6#3)) ∧
  (∀ s, exec (.reservedEvt11x true) s = .refused (.reservedEvent 7#3))

/-! ### Rules of the whole machine -/

/-- R34: in a session nothing but SYNC1_START writes LINE, alone or in the tick whose expiry takes it. Outside one a CONFIGURE
sets it, and a TEARDOWN of an unfaulted block clears it (R236), each as the command itself or as the HOST_CMD that carries it. -/
def Obligations.OnlySync1StartAdvancesLine : Prop :=
  ∀ (i : Instr) (s t : State), exec i s = .next t → t.seq.line ≠ s.seq.line →
    i = .sync1Start ∨
    (i = .tick ∧ s.seq.phase = 0#3 ∧ s.tmr.ctrl.run = true ∧ s.tmr.count.toNat ≤ 1 ∧ s.tmr.ctrl.irqEn = true) ∨
    (s.ctl.active = false ∧ s.ctl.fault.faulted = false ∧
      ∃ vpin spin bitord w h, commandOf i = some (.configure vpin spin bitord w h)) ∨
    (s.ctl.fault.faulted = false ∧ commandOf i = some .teardown)

/-- R12: while a session goes on its geometry, durations and framebuffer reference (R35 to R37), its pin identifiers (R43), the
video pin's level (R41) and its bit order (R47) do not change. Nor do the parameters, which the model holds in State (log
entry 2). -/
def Obligations.SessionConfigurationIsImmutable : Prop :=
  ∀ (i : Instr) (s t : State), exec i s = .next t → s.ctl.active = true → t.ctl.active = true →
    t.geom = s.geom ∧ t.fb = s.fb ∧ t.ctl.bitOrder = s.ctl.bitOrder ∧ t.pins.vpin = s.pins.vpin ∧
      t.pins.spin = s.pins.spin ∧ t.pins.videoLevel = s.pins.videoLevel ∧ t.params = s.params

/-- R60: a step only appends to the trace, and every event carries the tick it was emitted at. -/
def Obligations.TraceIsAppended : Prop :=
  ∀ (i : Instr) (s t : State), exec i s = .next t → ∃ new, t.trace = s.trace ++ new ∧
    ∀ e ∈ new, (match e with
      | .sync u _ | .vmode u _ | .arm u _ _ _ _ | .pix u _ _ | .lost u _ | .cfg u _ | .down u | .halt u | .fault u _ => u) = t.now

/-- R55: NOW counts the ticks, and no rule reads it to decide a step: from another NOW and another trace the same registers,
memory and answers follow. -/
def Obligations.NowDecidesNothing : Prop :=
  (∀ (i : Instr) (s t : State), exec i s = .next t → t.now = if i = .tick then s.now + 1 else s.now) ∧
  (∀ (i : Instr) (s t : State) (n : Nat) (tr : List TraceEvent), exec i s = .next t →
    ∃ t', exec i { s with now := n, trace := tr } = .next t' ∧ t = { t' with now := t.now, trace := t.trace })

/-- R82: memory never steers the block: an instruction that neither reads nor writes a byte does the same from any memory. -/
def Obligations.MemoryDecidesNoTransition : Prop :=
  ∀ (i : Instr) (s t : State) (m : Memory), i ≠ .dmaByte → (∀ addr value, i ≠ .hostWrite addr value) →
    exec i s = .next t → exec i { s with mem := m } = .next { t with mem := m }

/-- R263: no instruction clears FAULT, reset does, and a faulted block refuses CONFIGURE and TEARDOWN. -/
def Obligations.FaultIsSticky : Prop :=
  (∀ (i : Instr) (s t : State), exec i s = .next t → s.ctl.fault.faulted = true → t.ctl.fault.faulted = true) ∧
  (∀ s : State, (powerOn s).ctl.fault.faulted = false) ∧
  (∀ (vpin spin : BitVec 8) (bitord : Bool) (w h : BitVec 16) (s : State), s.ctl.fault.faulted = true →
    (∃ t, exec (.configure vpin spin bitord w h) s = .next t ∧ t.ctl.status = 7#8 ∧
      t.results = s.results ++ [{ status := 7#8, value := 0#32 }]) ∧
    (∃ t, exec .teardown s = .next t ∧ t.ctl.status = 7#8 ∧
      t.results = s.results ++ [{ status := 7#8, value := 0#32 }]))

/-- R300: every register of R49 is zero after reset, NOW is 0, the trace is empty, and reset does not touch host memory. -/
def Obligations.ResetState : Prop :=
  (∀ r : BitVec 8, r.toNat ≤ 0x1A → readRegister State.reset r = some 0#32) ∧
  State.reset.now = 0 ∧ State.reset.trace = [] ∧
  (∀ s : State, (powerOn s).mem = s.mem ∧ (powerOn s).now = 0 ∧ (powerOn s).trace = [] ∧
    ∀ r : BitVec 8, r.toNat ≤ 0x1A → readRegister (powerOn s) r = some 0#32)

/-- The invariants of R53 and R35 to R39 hold at reset. -/
def Obligations.ResetMeetsInvariant : Prop := Inv State.reset

/-- Every step keeps the invariants of R53 and R35 to R39, from every state that has them. -/
def Obligations.StepKeepsInvariant : Prop := ∀ s t : State, Inv s → step s = .next t → Inv t

/-- R102 and R264: no step from a reachable state raises BAD_PHASE, and a byte step always finds its byte. The only step from one
that the model stops on an address is a HOST_WRITE past the address space (log entry 3). -/
def Obligations.ReachableStatesRaiseNoFault : Prop :=
  ∀ s : State, Reachable s → s.seq.phase.toNat ≤ 5 ∧ s.ctl.fault.faulted = false ∧
    (∀ t, step s = .next t → t.ctl.fault.faulted = false ∧ ∀ u r, TraceEvent.fault u r ∉ t.trace.drop s.trace.length) ∧
    (s.dma.active = true → ∃ t, exec .dmaByte s = .next t) ∧
    (∀ f, step s = .fault f → f = .outsideAddressSpace ∧
      ∃ addr value, nextInstr s = .ok (.hostWrite addr value) ∧ 2 ^ s.params.addrWidth.val ≤ addr.toNat)

/-- R77 and R211: every byte the engine reads in a reachable state lies in the framebuffer. -/
def Obligations.ReadsStayInFramebuffer : Prop :=
  ∀ s t : State, Reachable s → exec .dmaByte s = .next t →
    s.fb.base.toNat ≤ s.dma.src.toNat ∧ s.dma.src.toNat < s.fb.base.toNat + s.fb.size.toNat ∧
      s.fb.base.toNat + s.fb.size.toNat ≤ 2 ^ s.params.addrWidth.val

/-- Host memory keeps its canonical form under every instruction: equal memories stay equal data. -/
def Obligations.MemoryStaysCanonical : Prop :=
  ∀ (i : Instr) (s t : State), exec i s = .next t → Memory.wf s.mem → Memory.wf t.mem

/-! ### Fetch, decode and encode -/

/-- A step runs the decoded event, with its answers on the ports and the step off the script. That the agents' order stands in a
script is the model's (log entry 1). -/
def Obligations.StepRunsScheduledEvent : Prop :=
  ∀ (s : State) (p : ScheduledStep) (rest : List ScheduledStep) (i : Instr), s.script = p :: rest →
    decode .evt p.words = .ok (i, []) → step s = exec i { s with script := rest, answers := p.answers }

/-- With nothing scheduled a step is a tick: the model's choice (log entry 1). -/
def Obligations.IdleStepIsTick : Prop :=
  ∀ s : State, s.script = [] → step s = exec .tick s

/-- Decoding the words of a well-formed instruction gives it back, with whatever follows left over. -/
def Obligations.DecodeEncodeAgree : Prop :=
  ∀ (i : Instr) (rest : List Word), i.wf = true → decode i.space (encode i ++ rest) = .ok (i, rest)

/-- What the decoder reads is well-formed, of the space it was read in, and stands at the front of the list in its own words. The
second word of an illegal CONFIGURE is consumed and not interpreted (R108). An event's words are the model's own layout (log
entry 6). -/
def Obligations.DecodedWordsAreTheInstruction : Prop :=
  ∀ (sp : Space) (ws rest : List Word) (i : Instr), decode sp ws = .ok (i, rest) →
    i.wf = true ∧ i.space = sp ∧ ∃ used, ws = used ++ rest ∧ used.length = (encode i).length ∧
      used.head? = (encode i).head? ∧ ((∀ word0, i = .reservedCmd word0 → commandWords word0 = 1) → used = encode i)

/-- R101 to R108: words written out from the spec's encodings decode to the instructions they stand for. In the last clause the
code is R111's and the layout of the command word behind it is the model's own (log entry 6). -/
def Obligations.SampleWordsDecode : Prop :=
  decodeWhole .phase [0b010#32] = .ok .vidStart ∧
  decodeWhole .phase [0b111#32] = .ok (.reservedPhase true) ∧
  decodeWhole .cmd [0x01030401#32, 0x00640060#32] = .ok (.configure 3#8 4#8 true 100#16 96#16) ∧
  decodeWhole .cmd [0x02000000#32] = .ok .teardown ∧
  decodeWhole .cmd [0x03000013#32] = .ok (.rdreg 0x13#8) ∧
  decodeWhole .cmd [0x03000103#32] = .ok (.reservedCmd 0x03000103#32) ∧
  decodeWhole .evt [4#32, 0x02000000#32] = .ok (.hostCmd 0x02000000#32 0#32)
end

