-- ==== Sys2Proof/Laws/Flags.lean ====
section
/-! SUPPORT. The line predicates as propositions, and where a mapped line's row lies. -/

namespace Sys2Proof
namespace Machine

theorem vis_iff (l : Nat) : vis l = true ↔ (5 ≤ l ∧ l ≤ 309) ∨ (317 ≤ l ∧ l ≤ 622) := by
  simp [vis]

theorem longSync1_iff (l : Nat) : longSync1 l = true ↔ l ≤ 2 ∨ (313 ≤ l ∧ l ≤ 314) := by
  simp [longSync1]

theorem longSync2_iff (l : Nat) : longSync2 l = true ↔ l ≤ 1 ∨ (312 ≤ l ∧ l ≤ 314) := by
  simp [longSync2]

theorem mapped_iff (p : Params) (l : Nat) :
    mapped p l = true ↔ vis l = true ∧ 0 ≤ lineInField p l ∧ lineInField p l < 270 := by
  rw [mapped, Bool.and_eq_true, decide_eq_true_iff]
  rfl

/-- A mapped line is visible. -/
theorem vis_of_mapped {p : Params} {l : Nat} (h : mapped p l = true) : vis l = true := ((mapped_iff p l).1 h).1

/-- The row of a mapped line is a row of the framebuffer (40_line_field_sequencer.md R147). -/
theorem row_lt {p : Params} {l h : Nat} (hm : mapped p l = true) (h1 : 1 ≤ h) : row p l h < h := by
  have hm' := ((mapped_iff p l).1 hm).2
  have hle : (lineInField p l).toNat * h ≤ 269 * h := Nat.mul_le_mul_right _ (by omega)
  unfold row mappedLines
  omega

/-- The row of a mapped line ends inside the framebuffer (R148). -/
theorem rowAddr_end {p : Params} {l h base bpr : Nat} (hm : mapped p l = true) (h1 : 1 ≤ h) :
    rowAddr p l h base bpr + bpr ≤ base + bpr * h := by
  have hle : (row p l h + 1) * bpr ≤ h * bpr := Nat.mul_le_mul_right _ (row_lt hm h1)
  unfold rowAddr
  rw [Nat.mul_comm bpr h]
  rw [Nat.add_mul] at hle
  omega

/-- The line after one line index is a line index (R163). -/
theorem nextLine_le (l : Nat) : nextLine l ≤ maxLine := by
  unfold nextLine
  split <;> omega

end Machine
end Sys2Proof
end

