-- ==== Sys2Proof/Laws/Memory.lean ====
section
/-! SUPPORT. Host memory: a read after a write, and the canonical form is kept. -/

namespace Sys2Proof
namespace Machine

theorem Memory.wf_tail {c : Host.Cell} {m : Memory} (h : Memory.wf (c :: m)) : Memory.wf m :=
  ⟨(List.pairwise_cons.1 h.1).2, fun d hd => h.2 d (List.mem_cons_of_mem c hd)⟩

theorem Memory.head_lt {c : Host.Cell} {m : Memory} (h : Memory.wf (c :: m)) : ∀ d ∈ m, c.1 < d.1 :=
  (List.pairwise_cons.1 h.1).1

theorem Memory.mem_cons {a : Nat} {v : Byte} {m : Memory} {c : Host.Cell} (h : c ∈ Memory.cons a v m) :
    c = (a, v) ∨ c ∈ m := by
  unfold Memory.cons at h
  split at h
  · exact .inr h
  · simpa using h

/-- Every entry after a write is the written one or an old one. -/
theorem Memory.mem_write {m : Memory} {a : Nat} {v : Byte} {c : Host.Cell} (h : c ∈ Memory.write m a v) :
    c = (a, v) ∨ c ∈ m := by
  induction m with
  | nil => exact Memory.mem_cons h
  | cons d m ih =>
    unfold Memory.write at h
    split at h
    · exact Memory.mem_cons h
    · split at h
      · exact (Memory.mem_cons h).imp_right (List.mem_cons_of_mem d)
      · rcases List.mem_cons.1 h with rfl | h
        · exact .inr (List.mem_cons_self ..)
        · exact (ih h).imp_right (List.mem_cons_of_mem d)

theorem Memory.cons_wf {a : Nat} {v : Byte} {m : Memory} (h : Memory.wf m) (ha : ∀ d ∈ m, a < d.1) :
    Memory.wf (Memory.cons a v m) := by
  unfold Memory.cons
  split
  · exact h
  · rename_i hv
    refine ⟨List.pairwise_cons.2 ⟨ha, h.1⟩, fun c hc => ?_⟩
    rcases List.mem_cons.1 hc with rfl | hc
    · exact hv
    · exact h.2 c hc

/-- A write keeps the canonical form. -/
theorem Memory.write_wf {m : Memory} (h : Memory.wf m) (a : Nat) (v : Byte) : Memory.wf (Memory.write m a v) := by
  induction m with
  | nil => exact Memory.cons_wf h (by simp)
  | cons d m ih =>
    unfold Memory.write
    split
    · rename_i hlt
      exact Memory.cons_wf h fun e he => by
        rcases List.mem_cons.1 he with rfl | he
        · exact hlt
        · exact hlt.trans (Memory.head_lt h e he)
    · split
      · rename_i heq
        subst heq
        exact Memory.cons_wf (Memory.wf_tail h) (Memory.head_lt h)
      · rename_i hlt hne
        have hw := ih (Memory.wf_tail h)
        refine ⟨List.pairwise_cons.2 ⟨fun e he => ?_, hw.1⟩, fun e he => ?_⟩
        · rcases Memory.mem_write he with rfl | he
          · show d.1 < a
            omega
          · exact Memory.head_lt h e he
        · rcases List.mem_cons.1 he with rfl | he
          · exact h.2 _ (List.mem_cons_self ..)
          · exact hw.2 e he

/-- Below every listed address a memory reads as unwritten. -/
theorem Memory.read_below {m : Memory} {a : Nat} (h : ∀ d ∈ m, a < d.1) : Memory.read m a = unwrittenByte := by
  induction m with
  | nil => rfl
  | cons d m ih =>
    have hd := h d (List.mem_cons_self ..)
    rw [Memory.read, if_neg (by omega)]
    exact ih fun e he => h e (List.mem_cons_of_mem d he)

theorem Memory.read_cons_self {m : Memory} {a : Nat} (v : Byte) (h : ∀ d ∈ m, a < d.1) :
    Memory.read (Memory.cons a v m) a = v := by
  unfold Memory.cons
  split
  · rename_i hv
    rw [Memory.read_below h, hv]
  · rw [Memory.read, if_pos rfl]

theorem Memory.read_cons_other {m : Memory} {a b : Nat} (v : Byte) (h : b ≠ a) :
    Memory.read (Memory.cons a v m) b = Memory.read m b := by
  unfold Memory.cons
  split
  · rfl
  · rw [Memory.read, if_neg h]

/-- A read after a write to the same address gives the byte written. -/
theorem Memory.read_write_same {m : Memory} (h : Memory.wf m) (a : Nat) (v : Byte) :
    Memory.read (Memory.write m a v) a = v := by
  induction m with
  | nil => exact Memory.read_cons_self v (by simp)
  | cons d m ih =>
    unfold Memory.write
    split
    · rename_i hlt
      exact Memory.read_cons_self v fun e he => by
        rcases List.mem_cons.1 he with rfl | he
        · exact hlt
        · exact hlt.trans (Memory.head_lt h e he)
    · split
      · rename_i heq
        subst heq
        exact Memory.read_cons_self v (Memory.head_lt h)
      · rename_i hne
        rw [Memory.read, if_neg hne]
        exact ih (Memory.wf_tail h)

/-- A write leaves every other address alone. -/
theorem Memory.read_write_other {m : Memory} {a b : Nat} (v : Byte) (h : b ≠ a) :
    Memory.read (Memory.write m a v) b = Memory.read m b := by
  induction m with
  | nil => exact Memory.read_cons_other v h
  | cons d m ih =>
    unfold Memory.write
    split
    · exact Memory.read_cons_other v h
    · split
      · rename_i heq
        subst heq
        rw [Memory.read_cons_other v h, Memory.read, if_neg h]
      · rw [Memory.read, Memory.read, ih]

end Machine
end Sys2Proof
end

