-- ==== Sys2Proof/Laws/State.lean ====
section
/-! SUPPORT. One lemma per field per named update of the state, so that no later proof unfolds an update. -/

namespace Sys2Proof
namespace Machine

/-! ### emit -/

@[simp] theorem emit_seq (s : State) (e : TraceEvent) :
    (emit s e).seq = s.seq := rfl

@[simp] theorem emit_geom (s : State) (e : TraceEvent) :
    (emit s e).geom = s.geom := rfl

@[simp] theorem emit_fb (s : State) (e : TraceEvent) :
    (emit s e).fb = s.fb := rfl

@[simp] theorem emit_tmr (s : State) (e : TraceEvent) :
    (emit s e).tmr = s.tmr := rfl

@[simp] theorem emit_pins (s : State) (e : TraceEvent) :
    (emit s e).pins = s.pins := rfl

@[simp] theorem emit_dma (s : State) (e : TraceEvent) :
    (emit s e).dma = s.dma := rfl

@[simp] theorem emit_ctl (s : State) (e : TraceEvent) :
    (emit s e).ctl = s.ctl := rfl

@[simp] theorem emit_now (s : State) (e : TraceEvent) :
    (emit s e).now = s.now := rfl

@[simp] theorem emit_trace (s : State) (e : TraceEvent) :
    (emit s e).trace = s.trace ++ [e] := rfl

@[simp] theorem emit_results (s : State) (e : TraceEvent) :
    (emit s e).results = s.results := rfl

@[simp] theorem emit_mem (s : State) (e : TraceEvent) :
    (emit s e).mem = s.mem := rfl

@[simp] theorem emit_params (s : State) (e : TraceEvent) :
    (emit s e).params = s.params := rfl

@[simp] theorem emit_script (s : State) (e : TraceEvent) :
    (emit s e).script = s.script := rfl

@[simp] theorem emit_answers (s : State) (e : TraceEvent) :
    (emit s e).answers = s.answers := rfl

@[simp] theorem emit_draws (s : State) (e : TraceEvent) :
    (emit s e).draws = s.draws := rfl

@[simp] theorem emit_gap (s : State) (e : TraceEvent) :
    (emit s e).gap = s.gap := rfl

/-! ### answer -/

@[simp] theorem answer_seq (s : State) (st : Status) (v : Word) :
    (answer s st v).seq = s.seq := rfl

@[simp] theorem answer_geom (s : State) (st : Status) (v : Word) :
    (answer s st v).geom = s.geom := rfl

@[simp] theorem answer_fb (s : State) (st : Status) (v : Word) :
    (answer s st v).fb = s.fb := rfl

@[simp] theorem answer_tmr (s : State) (st : Status) (v : Word) :
    (answer s st v).tmr = s.tmr := rfl

@[simp] theorem answer_pins (s : State) (st : Status) (v : Word) :
    (answer s st v).pins = s.pins := rfl

@[simp] theorem answer_dma (s : State) (st : Status) (v : Word) :
    (answer s st v).dma = s.dma := rfl

@[simp] theorem answer_ctl (s : State) (st : Status) (v : Word) :
    (answer s st v).ctl = s.ctl := rfl

@[simp] theorem answer_now (s : State) (st : Status) (v : Word) :
    (answer s st v).now = s.now := rfl

@[simp] theorem answer_trace (s : State) (st : Status) (v : Word) :
    (answer s st v).trace = s.trace := rfl

@[simp] theorem answer_results (s : State) (st : Status) (v : Word) :
    (answer s st v).results = s.results ++ [⟨st.code, v⟩] := rfl

@[simp] theorem answer_mem (s : State) (st : Status) (v : Word) :
    (answer s st v).mem = s.mem := rfl

@[simp] theorem answer_params (s : State) (st : Status) (v : Word) :
    (answer s st v).params = s.params := rfl

@[simp] theorem answer_script (s : State) (st : Status) (v : Word) :
    (answer s st v).script = s.script := rfl

@[simp] theorem answer_answers (s : State) (st : Status) (v : Word) :
    (answer s st v).answers = s.answers := rfl

@[simp] theorem answer_draws (s : State) (st : Status) (v : Word) :
    (answer s st v).draws = s.draws := rfl

@[simp] theorem answer_gap (s : State) (st : Status) (v : Word) :
    (answer s st v).gap = s.gap := rfl

/-! ### setStatus -/

@[simp] theorem setStatus_seq (s : State) (st : Status) :
    (setStatus s st).seq = s.seq := rfl

@[simp] theorem setStatus_geom (s : State) (st : Status) :
    (setStatus s st).geom = s.geom := rfl

@[simp] theorem setStatus_fb (s : State) (st : Status) :
    (setStatus s st).fb = s.fb := rfl

@[simp] theorem setStatus_tmr (s : State) (st : Status) :
    (setStatus s st).tmr = s.tmr := rfl

@[simp] theorem setStatus_pins (s : State) (st : Status) :
    (setStatus s st).pins = s.pins := rfl

@[simp] theorem setStatus_dma (s : State) (st : Status) :
    (setStatus s st).dma = s.dma := rfl

@[simp] theorem setStatus_ctl (s : State) (st : Status) :
    (setStatus s st).ctl = { s.ctl with status := st.code } := rfl

@[simp] theorem setStatus_now (s : State) (st : Status) :
    (setStatus s st).now = s.now := rfl

@[simp] theorem setStatus_trace (s : State) (st : Status) :
    (setStatus s st).trace = s.trace := rfl

@[simp] theorem setStatus_results (s : State) (st : Status) :
    (setStatus s st).results = s.results := rfl

@[simp] theorem setStatus_mem (s : State) (st : Status) :
    (setStatus s st).mem = s.mem := rfl

@[simp] theorem setStatus_params (s : State) (st : Status) :
    (setStatus s st).params = s.params := rfl

@[simp] theorem setStatus_script (s : State) (st : Status) :
    (setStatus s st).script = s.script := rfl

@[simp] theorem setStatus_answers (s : State) (st : Status) :
    (setStatus s st).answers = s.answers := rfl

@[simp] theorem setStatus_draws (s : State) (st : Status) :
    (setStatus s st).draws = s.draws := rfl

@[simp] theorem setStatus_gap (s : State) (st : Status) :
    (setStatus s st).gap = s.gap := rfl

/-! ### programTimer -/

@[simp] theorem programTimer_seq (s : State) (d : Word) (p : Phase) :
    (programTimer s d p).seq = { s.seq with phase := p.code } := rfl

@[simp] theorem programTimer_geom (s : State) (d : Word) (p : Phase) :
    (programTimer s d p).geom = s.geom := rfl

@[simp] theorem programTimer_fb (s : State) (d : Word) (p : Phase) :
    (programTimer s d p).fb = s.fb := rfl

@[simp] theorem programTimer_tmr (s : State) (d : Word) (p : Phase) :
    (programTimer s d p).tmr = { s.tmr with period := d, count := d } := rfl

@[simp] theorem programTimer_pins (s : State) (d : Word) (p : Phase) :
    (programTimer s d p).pins = s.pins := rfl

@[simp] theorem programTimer_dma (s : State) (d : Word) (p : Phase) :
    (programTimer s d p).dma = s.dma := rfl

@[simp] theorem programTimer_ctl (s : State) (d : Word) (p : Phase) :
    (programTimer s d p).ctl = s.ctl := rfl

@[simp] theorem programTimer_now (s : State) (d : Word) (p : Phase) :
    (programTimer s d p).now = s.now := rfl

@[simp] theorem programTimer_trace (s : State) (d : Word) (p : Phase) :
    (programTimer s d p).trace = s.trace := rfl

@[simp] theorem programTimer_results (s : State) (d : Word) (p : Phase) :
    (programTimer s d p).results = s.results := rfl

@[simp] theorem programTimer_mem (s : State) (d : Word) (p : Phase) :
    (programTimer s d p).mem = s.mem := rfl

@[simp] theorem programTimer_params (s : State) (d : Word) (p : Phase) :
    (programTimer s d p).params = s.params := rfl

@[simp] theorem programTimer_script (s : State) (d : Word) (p : Phase) :
    (programTimer s d p).script = s.script := rfl

@[simp] theorem programTimer_answers (s : State) (d : Word) (p : Phase) :
    (programTimer s d p).answers = s.answers := rfl

@[simp] theorem programTimer_draws (s : State) (d : Word) (p : Phase) :
    (programTimer s d p).draws = s.draws := rfl

@[simp] theorem programTimer_gap (s : State) (d : Word) (p : Phase) :
    (programTimer s d p).gap = s.gap := rfl

/-! ### setLine -/

@[simp] theorem setLine_seq (s : State) (l : Nat) :
    (setLine s l).seq = { s.seq with line := BitVec.ofNat 10 l } := rfl

@[simp] theorem setLine_geom (s : State) (l : Nat) :
    (setLine s l).geom = s.geom := rfl

@[simp] theorem setLine_fb (s : State) (l : Nat) :
    (setLine s l).fb = s.fb := rfl

@[simp] theorem setLine_tmr (s : State) (l : Nat) :
    (setLine s l).tmr = s.tmr := rfl

@[simp] theorem setLine_pins (s : State) (l : Nat) :
    (setLine s l).pins = s.pins := rfl

@[simp] theorem setLine_dma (s : State) (l : Nat) :
    (setLine s l).dma = s.dma := rfl

@[simp] theorem setLine_ctl (s : State) (l : Nat) :
    (setLine s l).ctl = s.ctl := rfl

@[simp] theorem setLine_now (s : State) (l : Nat) :
    (setLine s l).now = s.now := rfl

@[simp] theorem setLine_trace (s : State) (l : Nat) :
    (setLine s l).trace = s.trace := rfl

@[simp] theorem setLine_results (s : State) (l : Nat) :
    (setLine s l).results = s.results := rfl

@[simp] theorem setLine_mem (s : State) (l : Nat) :
    (setLine s l).mem = s.mem := rfl

@[simp] theorem setLine_params (s : State) (l : Nat) :
    (setLine s l).params = s.params := rfl

@[simp] theorem setLine_script (s : State) (l : Nat) :
    (setLine s l).script = s.script := rfl

@[simp] theorem setLine_answers (s : State) (l : Nat) :
    (setLine s l).answers = s.answers := rfl

@[simp] theorem setLine_draws (s : State) (l : Nat) :
    (setLine s l).draws = s.draws := rfl

@[simp] theorem setLine_gap (s : State) (l : Nat) :
    (setLine s l).gap = s.gap := rfl

/-! ### setCount -/

@[simp] theorem setCount_seq (s : State) (c : Word) :
    (setCount s c).seq = s.seq := rfl

@[simp] theorem setCount_geom (s : State) (c : Word) :
    (setCount s c).geom = s.geom := rfl

@[simp] theorem setCount_fb (s : State) (c : Word) :
    (setCount s c).fb = s.fb := rfl

@[simp] theorem setCount_tmr (s : State) (c : Word) :
    (setCount s c).tmr = { s.tmr with count := c } := rfl

@[simp] theorem setCount_pins (s : State) (c : Word) :
    (setCount s c).pins = s.pins := rfl

@[simp] theorem setCount_dma (s : State) (c : Word) :
    (setCount s c).dma = s.dma := rfl

@[simp] theorem setCount_ctl (s : State) (c : Word) :
    (setCount s c).ctl = s.ctl := rfl

@[simp] theorem setCount_now (s : State) (c : Word) :
    (setCount s c).now = s.now := rfl

@[simp] theorem setCount_trace (s : State) (c : Word) :
    (setCount s c).trace = s.trace := rfl

@[simp] theorem setCount_results (s : State) (c : Word) :
    (setCount s c).results = s.results := rfl

@[simp] theorem setCount_mem (s : State) (c : Word) :
    (setCount s c).mem = s.mem := rfl

@[simp] theorem setCount_params (s : State) (c : Word) :
    (setCount s c).params = s.params := rfl

@[simp] theorem setCount_script (s : State) (c : Word) :
    (setCount s c).script = s.script := rfl

@[simp] theorem setCount_answers (s : State) (c : Word) :
    (setCount s c).answers = s.answers := rfl

@[simp] theorem setCount_draws (s : State) (c : Word) :
    (setCount s c).draws = s.draws := rfl

@[simp] theorem setCount_gap (s : State) (c : Word) :
    (setCount s c).gap = s.gap := rfl

/-! ### stopTimer -/

@[simp] theorem stopTimer_seq (s : State) :
    (stopTimer s).seq = s.seq := rfl

@[simp] theorem stopTimer_geom (s : State) :
    (stopTimer s).geom = s.geom := rfl

@[simp] theorem stopTimer_fb (s : State) :
    (stopTimer s).fb = s.fb := rfl

@[simp] theorem stopTimer_tmr (s : State) :
    (stopTimer s).tmr = { s.tmr with ctrl := { s.tmr.ctrl with run := false } } := rfl

@[simp] theorem stopTimer_pins (s : State) :
    (stopTimer s).pins = s.pins := rfl

@[simp] theorem stopTimer_dma (s : State) :
    (stopTimer s).dma = s.dma := rfl

@[simp] theorem stopTimer_ctl (s : State) :
    (stopTimer s).ctl = s.ctl := rfl

@[simp] theorem stopTimer_now (s : State) :
    (stopTimer s).now = s.now := rfl

@[simp] theorem stopTimer_trace (s : State) :
    (stopTimer s).trace = s.trace := rfl

@[simp] theorem stopTimer_results (s : State) :
    (stopTimer s).results = s.results := rfl

@[simp] theorem stopTimer_mem (s : State) :
    (stopTimer s).mem = s.mem := rfl

@[simp] theorem stopTimer_params (s : State) :
    (stopTimer s).params = s.params := rfl

@[simp] theorem stopTimer_script (s : State) :
    (stopTimer s).script = s.script := rfl

@[simp] theorem stopTimer_answers (s : State) :
    (stopTimer s).answers = s.answers := rfl

@[simp] theorem stopTimer_draws (s : State) :
    (stopTimer s).draws = s.draws := rfl

@[simp] theorem stopTimer_gap (s : State) :
    (stopTimer s).gap = s.gap := rfl

/-! ### countTick -/

@[simp] theorem countTick_seq (s : State) :
    (countTick s).seq = s.seq := rfl

@[simp] theorem countTick_geom (s : State) :
    (countTick s).geom = s.geom := rfl

@[simp] theorem countTick_fb (s : State) :
    (countTick s).fb = s.fb := rfl

@[simp] theorem countTick_tmr (s : State) :
    (countTick s).tmr = s.tmr := rfl

@[simp] theorem countTick_pins (s : State) :
    (countTick s).pins = s.pins := rfl

@[simp] theorem countTick_dma (s : State) :
    (countTick s).dma = s.dma := rfl

@[simp] theorem countTick_ctl (s : State) :
    (countTick s).ctl = s.ctl := rfl

@[simp] theorem countTick_now (s : State) :
    (countTick s).now = s.now + 1 := rfl

@[simp] theorem countTick_trace (s : State) :
    (countTick s).trace = s.trace := rfl

@[simp] theorem countTick_results (s : State) :
    (countTick s).results = s.results := rfl

@[simp] theorem countTick_mem (s : State) :
    (countTick s).mem = s.mem := rfl

@[simp] theorem countTick_params (s : State) :
    (countTick s).params = s.params := rfl

@[simp] theorem countTick_script (s : State) :
    (countTick s).script = s.script := rfl

@[simp] theorem countTick_answers (s : State) :
    (countTick s).answers = s.answers := rfl

@[simp] theorem countTick_draws (s : State) :
    (countTick s).draws = s.draws := rfl

@[simp] theorem countTick_gap (s : State) :
    (countTick s).gap = s.gap := rfl

/-! ### driveSync -/

@[simp] theorem driveSync_seq (s : State) (b : Bool) :
    (driveSync s b).seq = s.seq := rfl

@[simp] theorem driveSync_geom (s : State) (b : Bool) :
    (driveSync s b).geom = s.geom := rfl

@[simp] theorem driveSync_fb (s : State) (b : Bool) :
    (driveSync s b).fb = s.fb := rfl

@[simp] theorem driveSync_tmr (s : State) (b : Bool) :
    (driveSync s b).tmr = s.tmr := rfl

@[simp] theorem driveSync_pins (s : State) (b : Bool) :
    (driveSync s b).pins = { s.pins with syncLevel := b } := rfl

@[simp] theorem driveSync_dma (s : State) (b : Bool) :
    (driveSync s b).dma = s.dma := rfl

@[simp] theorem driveSync_ctl (s : State) (b : Bool) :
    (driveSync s b).ctl = s.ctl := rfl

@[simp] theorem driveSync_now (s : State) (b : Bool) :
    (driveSync s b).now = s.now := rfl

@[simp] theorem driveSync_trace (s : State) (b : Bool) :
    (driveSync s b).trace = s.trace ++ [.sync s.now b] := rfl

@[simp] theorem driveSync_results (s : State) (b : Bool) :
    (driveSync s b).results = s.results := rfl

@[simp] theorem driveSync_mem (s : State) (b : Bool) :
    (driveSync s b).mem = s.mem := rfl

@[simp] theorem driveSync_params (s : State) (b : Bool) :
    (driveSync s b).params = s.params := rfl

@[simp] theorem driveSync_script (s : State) (b : Bool) :
    (driveSync s b).script = s.script := rfl

@[simp] theorem driveSync_answers (s : State) (b : Bool) :
    (driveSync s b).answers = s.answers := rfl

@[simp] theorem driveSync_draws (s : State) (b : Bool) :
    (driveSync s b).draws = s.draws := rfl

@[simp] theorem driveSync_gap (s : State) (b : Bool) :
    (driveSync s b).gap = s.gap := rfl

/-! ### memWrite -/

@[simp] theorem memWrite_seq (s : State) (a : Word) (v : Byte) :
    (memWrite s a v).seq = s.seq := rfl

@[simp] theorem memWrite_geom (s : State) (a : Word) (v : Byte) :
    (memWrite s a v).geom = s.geom := rfl

@[simp] theorem memWrite_fb (s : State) (a : Word) (v : Byte) :
    (memWrite s a v).fb = s.fb := rfl

@[simp] theorem memWrite_tmr (s : State) (a : Word) (v : Byte) :
    (memWrite s a v).tmr = s.tmr := rfl

@[simp] theorem memWrite_pins (s : State) (a : Word) (v : Byte) :
    (memWrite s a v).pins = s.pins := rfl

@[simp] theorem memWrite_dma (s : State) (a : Word) (v : Byte) :
    (memWrite s a v).dma = s.dma := rfl

@[simp] theorem memWrite_ctl (s : State) (a : Word) (v : Byte) :
    (memWrite s a v).ctl = s.ctl := rfl

@[simp] theorem memWrite_now (s : State) (a : Word) (v : Byte) :
    (memWrite s a v).now = s.now := rfl

@[simp] theorem memWrite_trace (s : State) (a : Word) (v : Byte) :
    (memWrite s a v).trace = s.trace := rfl

@[simp] theorem memWrite_results (s : State) (a : Word) (v : Byte) :
    (memWrite s a v).results = s.results := rfl

@[simp] theorem memWrite_mem (s : State) (a : Word) (v : Byte) :
    (memWrite s a v).mem = Memory.write s.mem a.toNat v := rfl

@[simp] theorem memWrite_params (s : State) (a : Word) (v : Byte) :
    (memWrite s a v).params = s.params := rfl

@[simp] theorem memWrite_script (s : State) (a : Word) (v : Byte) :
    (memWrite s a v).script = s.script := rfl

@[simp] theorem memWrite_answers (s : State) (a : Word) (v : Byte) :
    (memWrite s a v).answers = s.answers := rfl

@[simp] theorem memWrite_draws (s : State) (a : Word) (v : Byte) :
    (memWrite s a v).draws = s.draws := rfl

@[simp] theorem memWrite_gap (s : State) (a : Word) (v : Byte) :
    (memWrite s a v).gap = s.gap := rfl

/-! ### raiseFault -/

@[simp] theorem raiseFault_seq (s : State) (r : BitVec 4) :
    (raiseFault s r).seq = s.seq := rfl

@[simp] theorem raiseFault_geom (s : State) (r : BitVec 4) :
    (raiseFault s r).geom = s.geom := rfl

@[simp] theorem raiseFault_fb (s : State) (r : BitVec 4) :
    (raiseFault s r).fb = s.fb := rfl

@[simp] theorem raiseFault_tmr (s : State) (r : BitVec 4) :
    (raiseFault s r).tmr = { s.tmr with ctrl := { s.tmr.ctrl with run := false } } := rfl

@[simp] theorem raiseFault_pins (s : State) (r : BitVec 4) :
    (raiseFault s r).pins = s.pins := rfl

@[simp] theorem raiseFault_dma (s : State) (r : BitVec 4) :
    (raiseFault s r).dma = s.dma := rfl

@[simp] theorem raiseFault_ctl (s : State) (r : BitVec 4) :
    (raiseFault s r).ctl = { s.ctl with fault := ⟨true, r⟩ } := rfl

@[simp] theorem raiseFault_now (s : State) (r : BitVec 4) :
    (raiseFault s r).now = s.now := rfl

@[simp] theorem raiseFault_trace (s : State) (r : BitVec 4) :
    (raiseFault s r).trace = s.trace ++ [.fault s.now r] := rfl

@[simp] theorem raiseFault_results (s : State) (r : BitVec 4) :
    (raiseFault s r).results = s.results := rfl

@[simp] theorem raiseFault_mem (s : State) (r : BitVec 4) :
    (raiseFault s r).mem = s.mem := rfl

@[simp] theorem raiseFault_params (s : State) (r : BitVec 4) :
    (raiseFault s r).params = s.params := rfl

@[simp] theorem raiseFault_script (s : State) (r : BitVec 4) :
    (raiseFault s r).script = s.script := rfl

@[simp] theorem raiseFault_answers (s : State) (r : BitVec 4) :
    (raiseFault s r).answers = s.answers := rfl

@[simp] theorem raiseFault_draws (s : State) (r : BitVec 4) :
    (raiseFault s r).draws = s.draws := rfl

@[simp] theorem raiseFault_gap (s : State) (r : BitVec 4) :
    (raiseFault s r).gap = s.gap := rfl

/-! ### failConfigure -/

@[simp] theorem failConfigure_seq (s : State) (st : Status) :
    (failConfigure s st).seq = s.seq := rfl

@[simp] theorem failConfigure_geom (s : State) (st : Status) :
    (failConfigure s st).geom = s.geom := rfl

@[simp] theorem failConfigure_fb (s : State) (st : Status) :
    (failConfigure s st).fb = s.fb := rfl

@[simp] theorem failConfigure_tmr (s : State) (st : Status) :
    (failConfigure s st).tmr = s.tmr := rfl

@[simp] theorem failConfigure_pins (s : State) (st : Status) :
    (failConfigure s st).pins = s.pins := rfl

@[simp] theorem failConfigure_dma (s : State) (st : Status) :
    (failConfigure s st).dma = s.dma := rfl

@[simp] theorem failConfigure_ctl (s : State) (st : Status) :
    (failConfigure s st).ctl = { s.ctl with status := st.code } := rfl

@[simp] theorem failConfigure_now (s : State) (st : Status) :
    (failConfigure s st).now = s.now := rfl

@[simp] theorem failConfigure_trace (s : State) (st : Status) :
    (failConfigure s st).trace = s.trace ++ [.cfg s.now st] := rfl

@[simp] theorem failConfigure_results (s : State) (st : Status) :
    (failConfigure s st).results = s.results ++ [⟨st.code, 0#32⟩] := rfl

@[simp] theorem failConfigure_mem (s : State) (st : Status) :
    (failConfigure s st).mem = s.mem := rfl

@[simp] theorem failConfigure_params (s : State) (st : Status) :
    (failConfigure s st).params = s.params := rfl

@[simp] theorem failConfigure_script (s : State) (st : Status) :
    (failConfigure s st).script = s.script := rfl

@[simp] theorem failConfigure_answers (s : State) (st : Status) :
    (failConfigure s st).answers = s.answers := rfl

@[simp] theorem failConfigure_draws (s : State) (st : Status) :
    (failConfigure s st).draws = s.draws := rfl

@[simp] theorem failConfigure_gap (s : State) (st : Status) :
    (failConfigure s st).gap = s.gap := rfl

/-! ### clearRegisters -/

@[simp] theorem clearRegisters_seq (s : State) :
    (clearRegisters s).seq = .reset := rfl

@[simp] theorem clearRegisters_geom (s : State) :
    (clearRegisters s).geom = .reset := rfl

@[simp] theorem clearRegisters_fb (s : State) :
    (clearRegisters s).fb = .reset := rfl

@[simp] theorem clearRegisters_tmr (s : State) :
    (clearRegisters s).tmr = .reset := rfl

@[simp] theorem clearRegisters_pins (s : State) :
    (clearRegisters s).pins = .reset := rfl

@[simp] theorem clearRegisters_dma (s : State) :
    (clearRegisters s).dma = .reset := rfl

@[simp] theorem clearRegisters_ctl (s : State) :
    (clearRegisters s).ctl = { Control.reset with fault := s.ctl.fault } := rfl

@[simp] theorem clearRegisters_now (s : State) :
    (clearRegisters s).now = s.now := rfl

@[simp] theorem clearRegisters_trace (s : State) :
    (clearRegisters s).trace = s.trace := rfl

@[simp] theorem clearRegisters_results (s : State) :
    (clearRegisters s).results = s.results := rfl

@[simp] theorem clearRegisters_mem (s : State) :
    (clearRegisters s).mem = s.mem := rfl

@[simp] theorem clearRegisters_params (s : State) :
    (clearRegisters s).params = s.params := rfl

@[simp] theorem clearRegisters_script (s : State) :
    (clearRegisters s).script = s.script := rfl

@[simp] theorem clearRegisters_answers (s : State) :
    (clearRegisters s).answers = s.answers := rfl

@[simp] theorem clearRegisters_draws (s : State) :
    (clearRegisters s).draws = s.draws := rfl

@[simp] theorem clearRegisters_gap (s : State) :
    (clearRegisters s).gap = s.gap := rfl

/-! ### switchVideo -/

@[simp] theorem switchVideo_seq (s : State) (m : VideoMode) :
    (switchVideo s m).seq = s.seq := by
  unfold switchVideo; split <;> simp_all [emit]

@[simp] theorem switchVideo_geom (s : State) (m : VideoMode) :
    (switchVideo s m).geom = s.geom := by
  unfold switchVideo; split <;> simp_all [emit]

@[simp] theorem switchVideo_fb (s : State) (m : VideoMode) :
    (switchVideo s m).fb = s.fb := by
  unfold switchVideo; split <;> simp_all [emit]

@[simp] theorem switchVideo_tmr (s : State) (m : VideoMode) :
    (switchVideo s m).tmr = s.tmr := by
  unfold switchVideo; split <;> simp_all [emit]

@[simp] theorem switchVideo_pins (s : State) (m : VideoMode) :
    (switchVideo s m).pins = { s.pins with videoMode := m } := by
  unfold switchVideo; split
  · rename_i h; subst h; rfl
  · rfl

@[simp] theorem switchVideo_dma (s : State) (m : VideoMode) :
    (switchVideo s m).dma = s.dma := by
  unfold switchVideo; split <;> simp_all [emit]

@[simp] theorem switchVideo_ctl (s : State) (m : VideoMode) :
    (switchVideo s m).ctl = s.ctl := by
  unfold switchVideo; split <;> simp_all [emit]

@[simp] theorem switchVideo_now (s : State) (m : VideoMode) :
    (switchVideo s m).now = s.now := by
  unfold switchVideo; split <;> simp_all [emit]

@[simp] theorem switchVideo_trace (s : State) (m : VideoMode) :
    (switchVideo s m).trace = if s.pins.videoMode = m then s.trace else s.trace ++ [.vmode s.now m] := by
  unfold switchVideo; split <;> simp_all [emit]

@[simp] theorem switchVideo_results (s : State) (m : VideoMode) :
    (switchVideo s m).results = s.results := by
  unfold switchVideo; split <;> simp_all [emit]

@[simp] theorem switchVideo_mem (s : State) (m : VideoMode) :
    (switchVideo s m).mem = s.mem := by
  unfold switchVideo; split <;> simp_all [emit]

@[simp] theorem switchVideo_params (s : State) (m : VideoMode) :
    (switchVideo s m).params = s.params := by
  unfold switchVideo; split <;> simp_all [emit]

@[simp] theorem switchVideo_script (s : State) (m : VideoMode) :
    (switchVideo s m).script = s.script := by
  unfold switchVideo; split <;> simp_all [emit]

@[simp] theorem switchVideo_answers (s : State) (m : VideoMode) :
    (switchVideo s m).answers = s.answers := by
  unfold switchVideo; split <;> simp_all [emit]

@[simp] theorem switchVideo_draws (s : State) (m : VideoMode) :
    (switchVideo s m).draws = s.draws := by
  unfold switchVideo; split <;> simp_all [emit]

@[simp] theorem switchVideo_gap (s : State) (m : VideoMode) :
    (switchVideo s m).gap = if s.pins.videoMode = m then s.gap else if m = .serial then s.gap + 1 else s.gap := by
  unfold switchVideo; split <;> simp_all [emit]

/-! ### setDmaSrc -/

@[simp] theorem setDmaSrc_seq (s : State) (n : Nat) :
    (setDmaSrc s n).seq = s.seq := by
  unfold setDmaSrc; split <;> rfl

@[simp] theorem setDmaSrc_geom (s : State) (n : Nat) :
    (setDmaSrc s n).geom = s.geom := by
  unfold setDmaSrc; split <;> rfl

@[simp] theorem setDmaSrc_fb (s : State) (n : Nat) :
    (setDmaSrc s n).fb = s.fb := by
  unfold setDmaSrc; split <;> rfl

@[simp] theorem setDmaSrc_tmr (s : State) (n : Nat) :
    (setDmaSrc s n).tmr = s.tmr := by
  unfold setDmaSrc; split <;> rfl

@[simp] theorem setDmaSrc_pins (s : State) (n : Nat) :
    (setDmaSrc s n).pins = s.pins := by
  unfold setDmaSrc; split <;> rfl

@[simp] theorem setDmaSrc_dma (s : State) (n : Nat) :
    (setDmaSrc s n).dma = if n < addressSpace s then { s.dma with src := BitVec.ofNat 32 n } else { s.dma with src := BitVec.ofNat 32 (Config.draw s.draws % addressSpace s) } := by
  unfold setDmaSrc; split <;> rfl

@[simp] theorem setDmaSrc_ctl (s : State) (n : Nat) :
    (setDmaSrc s n).ctl = s.ctl := by
  unfold setDmaSrc; split <;> rfl

@[simp] theorem setDmaSrc_now (s : State) (n : Nat) :
    (setDmaSrc s n).now = s.now := by
  unfold setDmaSrc; split <;> rfl

@[simp] theorem setDmaSrc_trace (s : State) (n : Nat) :
    (setDmaSrc s n).trace = s.trace := by
  unfold setDmaSrc; split <;> rfl

@[simp] theorem setDmaSrc_results (s : State) (n : Nat) :
    (setDmaSrc s n).results = s.results := by
  unfold setDmaSrc; split <;> rfl

@[simp] theorem setDmaSrc_mem (s : State) (n : Nat) :
    (setDmaSrc s n).mem = s.mem := by
  unfold setDmaSrc; split <;> rfl

@[simp] theorem setDmaSrc_params (s : State) (n : Nat) :
    (setDmaSrc s n).params = s.params := by
  unfold setDmaSrc; split <;> rfl

@[simp] theorem setDmaSrc_script (s : State) (n : Nat) :
    (setDmaSrc s n).script = s.script := by
  unfold setDmaSrc; split <;> rfl

@[simp] theorem setDmaSrc_answers (s : State) (n : Nat) :
    (setDmaSrc s n).answers = s.answers := by
  unfold setDmaSrc; split <;> rfl

@[simp] theorem setDmaSrc_draws (s : State) (n : Nat) :
    (setDmaSrc s n).draws = if n < addressSpace s then s.draws else s.draws + 1 := by
  unfold setDmaSrc; split <;> rfl

@[simp] theorem setDmaSrc_gap (s : State) (n : Nat) :
    (setDmaSrc s n).gap = s.gap := by
  unfold setDmaSrc; split <;> rfl

/-! ### countDmaByte -/

@[simp] theorem countDmaByte_seq (s : State) :
    (countDmaByte s).seq = s.seq := by
  unfold countDmaByte; split <;> rfl

@[simp] theorem countDmaByte_geom (s : State) :
    (countDmaByte s).geom = s.geom := by
  unfold countDmaByte; split <;> rfl

@[simp] theorem countDmaByte_fb (s : State) :
    (countDmaByte s).fb = s.fb := by
  unfold countDmaByte; split <;> rfl

@[simp] theorem countDmaByte_tmr (s : State) :
    (countDmaByte s).tmr = s.tmr := by
  unfold countDmaByte; split <;> rfl

@[simp] theorem countDmaByte_pins (s : State) :
    (countDmaByte s).pins = s.pins := by
  unfold countDmaByte; split <;> rfl

@[simp] theorem countDmaByte_dma (s : State) :
    (countDmaByte s).dma = if s.dma.len = 0#14 then { s.dma with len := BitVec.ofNat 14 (Config.draw s.draws) } else { s.dma with len := s.dma.len - 1#14, active := s.dma.active && s.dma.len != 1#14 } := by
  unfold countDmaByte; split <;> rfl

@[simp] theorem countDmaByte_ctl (s : State) :
    (countDmaByte s).ctl = s.ctl := by
  unfold countDmaByte; split <;> rfl

@[simp] theorem countDmaByte_now (s : State) :
    (countDmaByte s).now = s.now := by
  unfold countDmaByte; split <;> rfl

@[simp] theorem countDmaByte_trace (s : State) :
    (countDmaByte s).trace = s.trace := by
  unfold countDmaByte; split <;> rfl

@[simp] theorem countDmaByte_results (s : State) :
    (countDmaByte s).results = s.results := by
  unfold countDmaByte; split <;> rfl

@[simp] theorem countDmaByte_mem (s : State) :
    (countDmaByte s).mem = s.mem := by
  unfold countDmaByte; split <;> rfl

@[simp] theorem countDmaByte_params (s : State) :
    (countDmaByte s).params = s.params := by
  unfold countDmaByte; split <;> rfl

@[simp] theorem countDmaByte_script (s : State) :
    (countDmaByte s).script = s.script := by
  unfold countDmaByte; split <;> rfl

@[simp] theorem countDmaByte_answers (s : State) :
    (countDmaByte s).answers = s.answers := by
  unfold countDmaByte; split <;> rfl

@[simp] theorem countDmaByte_draws (s : State) :
    (countDmaByte s).draws = if s.dma.len = 0#14 then s.draws + 1 else s.draws := by
  unfold countDmaByte; split <;> rfl

@[simp] theorem countDmaByte_gap (s : State) :
    (countDmaByte s).gap = s.gap := by
  unfold countDmaByte; split <;> rfl

/-! ### shiftOut -/

@[simp] theorem shiftOut_seq (s : State) (b : Byte) :
    (shiftOut s b).seq = s.seq := by
  unfold shiftOut; split <;> simp_all [emit]

@[simp] theorem shiftOut_geom (s : State) (b : Byte) :
    (shiftOut s b).geom = s.geom := by
  unfold shiftOut; split <;> simp_all [emit]

@[simp] theorem shiftOut_fb (s : State) (b : Byte) :
    (shiftOut s b).fb = s.fb := by
  unfold shiftOut; split <;> simp_all [emit]

@[simp] theorem shiftOut_tmr (s : State) (b : Byte) :
    (shiftOut s b).tmr = s.tmr := by
  unfold shiftOut; split <;> simp_all [emit]

@[simp] theorem shiftOut_pins (s : State) (b : Byte) :
    (shiftOut s b).pins = s.pins := by
  unfold shiftOut; split <;> simp_all [emit]

@[simp] theorem shiftOut_dma (s : State) (b : Byte) :
    (shiftOut s b).dma = s.dma := by
  unfold shiftOut; split <;> simp_all [emit]

@[simp] theorem shiftOut_ctl (s : State) (b : Byte) :
    (shiftOut s b).ctl = s.ctl := by
  unfold shiftOut; split <;> simp_all [emit]

@[simp] theorem shiftOut_now (s : State) (b : Byte) :
    (shiftOut s b).now = s.now := by
  unfold shiftOut; split <;> simp_all [emit]

@[simp] theorem shiftOut_trace (s : State) (b : Byte) :
    (shiftOut s b).trace = s.trace ++ [if s.pins.videoMode = .serial then .pix s.now b s.ctl.bitOrder else .lost s.now b] := by
  unfold shiftOut; split <;> simp_all [emit]

@[simp] theorem shiftOut_results (s : State) (b : Byte) :
    (shiftOut s b).results = s.results := by
  unfold shiftOut; split <;> simp_all [emit]

@[simp] theorem shiftOut_mem (s : State) (b : Byte) :
    (shiftOut s b).mem = s.mem := by
  unfold shiftOut; split <;> simp_all [emit]

@[simp] theorem shiftOut_params (s : State) (b : Byte) :
    (shiftOut s b).params = s.params := by
  unfold shiftOut; split <;> simp_all [emit]

@[simp] theorem shiftOut_script (s : State) (b : Byte) :
    (shiftOut s b).script = s.script := by
  unfold shiftOut; split <;> simp_all [emit]

@[simp] theorem shiftOut_answers (s : State) (b : Byte) :
    (shiftOut s b).answers = s.answers := by
  unfold shiftOut; split <;> simp_all [emit]

@[simp] theorem shiftOut_draws (s : State) (b : Byte) :
    (shiftOut s b).draws = s.draws := by
  unfold shiftOut; split <;> simp_all [emit]

@[simp] theorem shiftOut_gap (s : State) (b : Byte) :
    (shiftOut s b).gap = if s.pins.videoMode = .serial then s.gap + 1 else s.gap := by
  unfold shiftOut; split <;> simp_all [emit]

/-! ### powerOn -/

@[simp] theorem powerOn_seq (s : State) :
    (powerOn s).seq = .reset := rfl

@[simp] theorem powerOn_geom (s : State) :
    (powerOn s).geom = .reset := rfl

@[simp] theorem powerOn_fb (s : State) :
    (powerOn s).fb = .reset := rfl

@[simp] theorem powerOn_tmr (s : State) :
    (powerOn s).tmr = .reset := rfl

@[simp] theorem powerOn_pins (s : State) :
    (powerOn s).pins = .reset := rfl

@[simp] theorem powerOn_dma (s : State) :
    (powerOn s).dma = .reset := rfl

@[simp] theorem powerOn_ctl (s : State) :
    (powerOn s).ctl = .reset := rfl

@[simp] theorem powerOn_now (s : State) :
    (powerOn s).now = 0 := rfl

@[simp] theorem powerOn_trace (s : State) :
    (powerOn s).trace = [] := rfl

@[simp] theorem powerOn_results (s : State) :
    (powerOn s).results = [] := rfl

@[simp] theorem powerOn_mem (s : State) :
    (powerOn s).mem = s.mem := rfl

@[simp] theorem powerOn_params (s : State) :
    (powerOn s).params = s.params := rfl

@[simp] theorem powerOn_script (s : State) :
    (powerOn s).script = s.script := rfl

@[simp] theorem powerOn_answers (s : State) :
    (powerOn s).answers = s.answers := rfl

@[simp] theorem powerOn_draws (s : State) :
    (powerOn s).draws = s.draws := rfl

@[simp] theorem powerOn_gap (s : State) :
    (powerOn s).gap = s.gap := rfl

end Machine
end Sys2Proof
end

