-- ==== Sys2Proof/Laws/Ops.lean ====
section
/-! SUPPORT. For each shared operation, what it can do, said once. -/

namespace Sys2Proof
namespace Machine

/-! ### The fault and the transfer engine's registers -/

/-- All that raising a fault does (60_exceptions.md R262). -/
theorem raiseFault_eq (s : State) (r : BitVec 4) :
    raiseFault s r =
      { s with
        ctl := { s.ctl with fault := ⟨true, r⟩ }
        tmr := { s.tmr with ctrl := { s.tmr.ctrl with run := false } }
        trace := s.trace ++ [.fault s.now r] } := rfl

/-- DMA_SRC takes an address that fits, and no free value is taken. -/
theorem setDmaSrc_fits {s : State} {n : Nat} (h : n < addressSpace s) :
    setDmaSrc s n = { s with dma := { s.dma with src := BitVec.ofNat 32 n } } := by
  simp [setDmaSrc, h]

/-- Whatever number is written, only DMA_SRC and the count of free values can change. -/
theorem setDmaSrc_frame (s : State) (n : Nat) :
    ∃ a d, setDmaSrc s n = { s with dma := { s.dma with src := a }, draws := d } := by
  unfold setDmaSrc
  split
  · exact ⟨_, _, rfl⟩
  · exact ⟨_, _, rfl⟩

/-- A byte of a transfer that has bytes left is counted; the last one ends the transfer. -/
theorem countDmaByte_pos {s : State} (h : s.dma.len ≠ 0#14) :
    countDmaByte s =
      { s with dma := { s.dma with len := s.dma.len - 1#14, active := s.dma.active && s.dma.len != 1#14 } } := by
  simp [countDmaByte, h]

/-- The address space has at most 2^32 addresses. -/
theorem addressSpace_le (s : State) : addressSpace s ≤ 2 ^ 32 :=
  Nat.pow_le_pow_right (by decide) (Nat.le_of_lt_succ s.params.addrWidth.isLt)

/-- The address space depends on the parameters alone. -/
theorem addressSpace_congr {s t : State} (h : t.params = s.params) : addressSpace t = addressSpace s := by
  rw [addressSpace, addressSpace, h]

/-! ### The video pin and the picture -/

theorem videoPinWith_plain {s : State} (hd : s.pins.videoDriven = true) (hm : s.pins.videoMode = .plain) (bit : Bool) :
    videoPinWith s bit = .driven s.pins.videoLevel := by simp [videoPinWith, hd, hm]

/-- In SERIAL mode a bit of 1 drives the pin high (42_scanline_transfer.md R208). -/
theorem videoPinWith_serial {s : State} (hd : s.pins.videoDriven = true) (hm : s.pins.videoMode = .serial) (bit : Bool) :
    videoPinWith s bit = .driven bit := by simp [videoPinWith, hd, hm]

theorem videoPinWith_released {s : State} (hd : s.pins.videoDriven = false) (bit : Bool) : videoPinWith s bit = .z := by
  simp [videoPinWith, hd]

/-- The pin depends on the pins' state and the serializer's output alone. -/
theorem videoPinWith_congr {s t : State} (h : t.pins = s.pins) (bit : Bool) : videoPinWith t bit = videoPinWith s bit := by
  rw [videoPinWith, videoPinWith, h]

@[simp] theorem picture_nil : picture [] = [] := rfl

@[simp] theorem picture_append (a b : List TraceEvent) : picture (a ++ b) = picture a ++ picture b := List.flatMap_append

@[simp] theorem bytesLeft_nil (left : Nat) : bytesLeft left [] = some left := rfl

/-- Two parts of a trace, one after the other (42_scanline_transfer.md R210). -/
theorem bytesLeft_append {left left' : Nat} {a : List TraceEvent} (h : bytesLeft left a = some left')
    (b : List TraceEvent) : bytesLeft left (a ++ b) = bytesLeft left' b := by
  induction a generalizing left with
  | nil => cases h; rfl
  | cons e a ih =>
    simp only [List.cons_append, bytesLeft] at h ⊢
    cases he : eventLeft left e with
    | none => rw [he] at h; cases h
    | some m => rw [he] at h; exact ih h

/-! ### The instructions -/

/-- An expiry's transition is the meaning of the instruction PHASE selects (41_pulse_state_machine.md R161). -/
theorem takeTransition_eq (s : State) : takeTransition s = exec (Phase.ofCode s.seq.phase).toInstr s := by
  unfold takeTransition
  cases Phase.ofCode s.seq.phase <;> rfl

/-- A performed command is the meaning of its instruction (43_host_commands.md R230). -/
theorem performCommand_eq (c : Command) (s : State) : performCommand c s = exec c.toInstr s := by
  cases c <;> rfl

/-- Every transition answers a next state. -/
theorem takeTransition_next (s : State) : ∃ t, takeTransition s = .next t := by
  unfold takeTransition
  split
  case h_2 => unfold execSync1End; dsimp only; split <;> exact ⟨_, rfl⟩
  all_goals exact ⟨_, rfl⟩

/-- What a TICK can do (41_pulse_state_machine.md R160, R171). -/
theorem execTick_cases {s t : State} (h : execTick s = .next t) :
    (s.tmr.ctrl.run = false ∧ t = countTick s) ∨
    (s.tmr.ctrl.run = true ∧ ticksLeft s ≠ 0 ∧ t = setCount (countTick s) (BitVec.ofNat 32 (ticksLeft s))) ∨
    (s.tmr.ctrl.run = true ∧ ticksLeft s = 0 ∧ s.tmr.ctrl.irqEn = false ∧
      t = setCount (countTick s) s.tmr.period) ∨
    (s.tmr.ctrl.run = true ∧ ticksLeft s = 0 ∧ s.tmr.ctrl.irqEn = true ∧
      takeTransition (countTick s) = .next t) := by
  unfold execTick at h
  dsimp only at h
  by_cases hr : s.tmr.ctrl.run = true
  · rw [if_pos hr] at h
    by_cases hz : ticksLeft s = 0
    · rw [if_pos hz] at h
      by_cases hi : s.tmr.ctrl.irqEn = true
      · rw [if_pos hi] at h
        exact .inr (.inr (.inr ⟨hr, hz, hi, h⟩))
      · rw [if_neg hi] at h
        cases h
        exact .inr (.inr (.inl ⟨hr, hz, by simpa using hi, rfl⟩))
    · rw [if_neg hz] at h
      cases h
      exact .inr (.inl ⟨hr, hz, rfl⟩)
  · rw [if_neg hr] at h
    cases h
    exact .inl ⟨by simpa using hr, rfl⟩

/-- What a DMA_BYTE can do (42_scanline_transfer.md R204, R205). -/
theorem execDmaByte_cases {s t : State} (h : execDmaByte s = .next t) :
    s.dma.active = true ∧ s.ctl.fault.faulted = false ∧ s.dma.src.toNat < addressSpace s ∧
      t = countDmaByte (setDmaSrc (shiftOut s (memRead s s.dma.src)) (s.dma.src.toNat + 1)) := by
  unfold execDmaByte at h
  split at h
  · rename_i he
    split at h
    · rename_i ha
      cases h
      simp only [dmaEnabled, Bool.and_eq_true, Bool.not_eq_true'] at he
      exact ⟨he.1, he.2, by simpa [inAddressSpace] using ha, rfl⟩
    · cases h
  · cases h

/-- What a CONFIGURE can do (43_host_commands.md R231 to R235): fail with a status, or start a session from an idle, unfaulted
block with a fitting base and a rate that passes. -/
theorem execConfigure_cases {vpin spin : BitVec 8} {bitord : Bool} {w h : BitVec 16} {s t : State}
    (hx : execConfigure vpin spin bitord w h s = .next t) :
    (∃ st, st ≠ .ok ∧ t = failConfigure s st) ∨
    (∃ base f, s.ctl.fault.faulted = false ∧ s.ctl.active = false ∧ w ≠ 0#16 ∧ h ≠ 0#16 ∧ vpin ≠ spin ∧
      providedBase s w h = some base ∧ s.answers.timer = some f ∧ rateOk s.params (ticksPerLineOf f) = true ∧
      t = startSession s vpin spin bitord w h base (ticksPerLineOf f)) := by
  unfold execConfigure at hx
  by_cases hf : s.ctl.fault.faulted = true
  · rw [if_pos hf] at hx
    cases hx
    exact .inl ⟨.faulted, by decide, rfl⟩
  rw [if_neg hf] at hx
  by_cases ha : s.ctl.active = true
  · rw [if_pos ha] at hx
    cases hx
    exact .inl ⟨.busy, by decide, rfl⟩
  rw [if_neg ha] at hx
  by_cases hw : w = 0#16 ∨ h = 0#16 ∨ vpin = spin
  · rw [if_pos hw] at hx
    cases hx
    exact .inl ⟨.badArgument, by decide, rfl⟩
  rw [if_neg hw] at hx
  rw [not_or, not_or] at hw
  cases hb : providedBase s w h with
  | none =>
    simp only [hb] at hx
    cases hx
    exact .inl ⟨.fbAllocFailed, by decide, rfl⟩
  | some base =>
    cases ht : s.answers.timer with
    | none =>
      simp only [hb, ht] at hx
      cases hx
      exact .inl ⟨.timerUnavailable, by decide, rfl⟩
    | some f =>
      simp only [hb, ht] at hx
      by_cases hr : rateOk s.params (ticksPerLineOf f) = true
      · rw [if_pos hr] at hx
        cases hx
        exact .inr ⟨base, f, by simpa using hf, by simpa using ha, hw.1, hw.2.1, hw.2.2, rfl, rfl, hr, rfl⟩
      · rw [if_neg hr] at hx
        cases hx
        exact .inl ⟨.badRate, by decide, rfl⟩

/-- What a host command can do: one of the four rules, by the decoder. -/
theorem execHostCmd_eq (word0 word1 : Word) (s : State) :
    execHostCmd word0 word1 s = exec (decodeCommand word0 word1).toInstr s := performCommand_eq _ s

/-- An instruction that performs a command does what the command does, however it arrives (R230). -/
theorem exec_of_commandOf {i : Instr} {c : Command} (h : commandOf i = some c) (s : State) :
    exec i s = performCommand c s := by
  cases i <;> cases h <;> rfl

/-- Which instructions stop on an address: a HOST_WRITE, or an enabled byte step, past the address space (20_memory.md R70,
log entry 3). -/
theorem exec_fault_cases {i : Instr} {s : State} {f : Fault} (h : exec i s = .fault f) :
    f = .outsideAddressSpace ∧
      ((∃ addr value, i = .hostWrite addr value ∧ addressSpace s ≤ addr.toNat) ∨
        (i = .dmaByte ∧ dmaEnabled s = true ∧ addressSpace s ≤ s.dma.src.toNat)) := by
  have transition (p : Phase) : exec p.toInstr s ≠ .fault f := by
    cases p
    case sync1End => simp only [Phase.toInstr, exec, execSync1End]; split <;> simp
    all_goals simp [Phase.toInstr, exec, execSync1Start, execVidStart, execVidBackporch, execSync2Start, execSync2End,
      execReservedPhase]
  have command (c : Command) : performCommand c s ≠ .fault f := by
    cases c
    case configure => simp only [performCommand, execConfigure]; repeat (split <;> try simp)
    case teardown => simp only [performCommand, execTeardown]; split <;> simp
    case rdreg => simp only [performCommand, execRdreg]; split <;> simp
    case reservedCmd => simp [performCommand, execReservedCmd]
  cases i with
  | sync1Start => exact absurd h (transition .sync1Start)
  | sync1End => exact absurd h (transition .sync1End)
  | vidStart => exact absurd h (transition .vidStart)
  | vidBackporch => exact absurd h (transition .vidBackporch)
  | sync2Start => exact absurd h (transition .sync2Start)
  | sync2End => exact absurd h (transition .sync2End)
  | reservedPhase low => exact absurd h (transition (.reserved low))
  | configure vpin spin bitord w hh => exact absurd h (command (.configure vpin spin bitord w hh))
  | teardown => exact absurd h (command .teardown)
  | rdreg regno => exact absurd h (command (.rdreg regno))
  | reservedCmd word0 => exact absurd h (command (.reservedCmd word0))
  | hostCmd word0 word1 => exact absurd h (command (decodeCommand word0 word1))
  | tick =>
    simp only [exec, execTick] at h
    split at h <;> try cases h
    split at h <;> try cases h
    split at h <;> try cases h
    obtain ⟨t, ht⟩ := takeTransition_next (countTick s)
    rw [ht] at h
    cases h
  | dmaByte =>
    simp only [exec, execDmaByte] at h
    split at h <;> try cases h
    rename_i he
    split at h <;> cases h
    rename_i ha
    exact ⟨rfl, .inr ⟨rfl, he, by simpa [inAddressSpace] using ha⟩⟩
  | extHalt =>
    simp only [exec, execExtHalt] at h
    split at h <;> cases h
  | hostWrite addr value =>
    simp only [exec, execHostWrite] at h
    split at h <;> cases h
    rename_i ha
    exact ⟨rfl, .inl ⟨addr, value, rfl, by simpa [inAddressSpace] using ha⟩⟩
  | reservedEvt101 => cases h
  | reservedEvt11x low => cases h

/-! ### The step -/

@[simp] theorem stateAfter_zero (s : State) : stateAfter 0 s = some s := rfl

/-- A run of one step more, where that step completes. -/
theorem stateAfter_succ {s t : State} (h : step s = .next t) (n : Nat) : stateAfter (n + 1) s = stateAfter n t := by
  simp [stateAfter, h]

/-- What holds throughout a run holds throughout a shorter one. -/
theorem throughout_mono {P : State → Prop} {m n : Nat} {s : State} (h : throughout P n s) (hm : m ≤ n) :
    throughout P m s := fun k hk u hu => h k (lt_of_lt_of_le hk hm) u hu

/-- What holds throughout a run holds at its start, and throughout what follows its first step. -/
theorem throughout_succ {P : State → Prop} {n : Nat} {s t : State} (h : step s = .next t) :
    throughout P (n + 1) s ↔ P s ∧ throughout P n t := by
  constructor
  · intro hp
    exact ⟨hp 0 (Nat.succ_pos n) s rfl,
      fun k hk u hu => hp (k + 1) (Nat.succ_lt_succ hk) u ((stateAfter_succ h k).trans hu)⟩
  · rintro ⟨hs, ht⟩ k hk u hu
    cases k with
    | zero => cases hu; exact hs
    | succ k => exact ht k (Nat.lt_of_succ_lt_succ hk) u ((stateAfter_succ h k).symm.trans hu)

/-- What a step can do: run a TICK with nothing scheduled, or the scheduled event. -/
theorem step_cases {s t : State} (h : step s = .next t) :
    (s.script = [] ∧ exec .tick s = .next t) ∨
    (∃ p rest i, s.script = p :: rest ∧ decodeWhole .evt p.words = .ok i ∧
      exec i { s with script := rest, answers := p.answers } = .next t) := by
  unfold step nextInstr takeScheduled at h
  cases hs : s.script with
  | nil =>
    rw [hs] at h
    exact .inl ⟨rfl, h⟩
  | cons p rest =>
    simp only [hs] at h
    cases hd : decodeWhole .evt p.words with
    | ok i =>
      simp only [hd] at h
      exact .inr ⟨p, rest, i, rfl, hd, h⟩
    | error r =>
      simp only [hd] at h
      cases h

end Machine
end Sys2Proof
end

