-- ==== Sys2Proof/Laws/PerInstr.lean ====
section
/-! SUPPORT. The per-instruction family LAWS.json names: how many words an instruction's encoding has (30_encoding.md R103). -/

namespace Sys2Proof
namespace Laws.EncodedLength

/-- The words of an instruction: CONFIGURE takes two, every other command one, a reserved command as its opcode says (R103); a
phase code one; an event one for its code and one for each operand word. -/
def wordsOf : Instr → Nat
  | .sync1Start | .sync1End | .vidStart | .vidBackporch | .sync2Start | .sync2End | .reservedPhase _ => 1
  | .configure _ _ _ _ _ => 2
  | .teardown | .rdreg _ => 1
  | .reservedCmd word0 => commandWords word0
  | .tick | .dmaByte | .extHalt | .reservedEvt101 | .reservedEvt11x _ => 1
  | .hostWrite _ _ => 3
  | .hostCmd word0 _ => 1 + commandWords word0

/-- The encoder writes exactly that many words. -/
def Statement (i : Instr) : Prop := (encode i).length = wordsOf i

theorem commandWords_cases (w : Word) : commandWords w = 1 ∨ commandWords w = 2 := by
  unfold commandWords
  split
  · exact .inr rfl
  · exact .inl rfl

theorem sync1Start : Statement .sync1Start := rfl
theorem sync1End : Statement .sync1End := rfl
theorem vidStart : Statement .vidStart := rfl
theorem vidBackporch : Statement .vidBackporch := rfl
theorem sync2Start : Statement .sync2Start := rfl
theorem sync2End : Statement .sync2End := rfl
theorem reservedPhase (low : Bool) : Statement (.reservedPhase low) := rfl
theorem configure (vpin spin : BitVec 8) (bitord : Bool) (width height : BitVec 16) :
    Statement (.configure vpin spin bitord width height) := rfl
theorem teardown : Statement .teardown := rfl
theorem rdreg (regno : BitVec 8) : Statement (.rdreg regno) := rfl
theorem reservedCmd (word0 : Word) : Statement (.reservedCmd word0) := by
  rcases commandWords_cases word0 with h | h <;> simp [Statement, encode, wordsOf, h]
theorem tick : Statement .tick := rfl
theorem dmaByte : Statement .dmaByte := rfl
theorem extHalt : Statement .extHalt := rfl
theorem hostWrite (addr : Word) (value : Byte) : Statement (.hostWrite addr value) := rfl
theorem hostCmd (word0 word1 : Word) : Statement (.hostCmd word0 word1) := by
  rcases commandWords_cases word0 with h | h <;> simp [Statement, encode, wordsOf, h]
theorem reservedEvt101 : Statement .reservedEvt101 := rfl
theorem reservedEvt11x (low : Bool) : Statement (.reservedEvt11x low) := rfl

end Laws.EncodedLength
end Sys2Proof
end

