-- ==== Sys2Proof/Laws/Sequencer.lean ====
section
/-! SUPPORT. What arming a transfer leaves alone, and what an expiry's transition can do, said once. -/

namespace Sys2Proof
namespace Machine

@[simp] theorem armTransfer_seq (s : State) : (armTransfer s).seq = s.seq := by simp [armTransfer]
@[simp] theorem armTransfer_geom (s : State) : (armTransfer s).geom = s.geom := by simp [armTransfer]
@[simp] theorem armTransfer_fb (s : State) : (armTransfer s).fb = s.fb := by simp [armTransfer]
@[simp] theorem armTransfer_tmr (s : State) : (armTransfer s).tmr = s.tmr := by simp [armTransfer]
@[simp] theorem armTransfer_pins (s : State) : (armTransfer s).pins = s.pins := by simp [armTransfer]
@[simp] theorem armTransfer_ctl (s : State) : (armTransfer s).ctl = s.ctl := by simp [armTransfer]
@[simp] theorem armTransfer_now (s : State) : (armTransfer s).now = s.now := by simp [armTransfer]
@[simp] theorem armTransfer_results (s : State) : (armTransfer s).results = s.results := by simp [armTransfer]
@[simp] theorem armTransfer_mem (s : State) : (armTransfer s).mem = s.mem := by simp [armTransfer]
@[simp] theorem armTransfer_params (s : State) : (armTransfer s).params = s.params := by simp [armTransfer]
@[simp] theorem armTransfer_script (s : State) : (armTransfer s).script = s.script := by simp [armTransfer]
@[simp] theorem armTransfer_answers (s : State) : (armTransfer s).answers = s.answers := by simp [armTransfer]
@[simp] theorem armTransfer_gap (s : State) : (armTransfer s).gap = s.gap := by simp [armTransfer]

@[simp] theorem armTransfer_trace (s : State) :
    (armTransfer s).trace = s.trace ++
      [.arm s.now (lineOf s) (row s.params (lineOf s) s.geom.height.toNat)
        (rowAddr s.params (lineOf s) s.geom.height.toNat s.fb.base.toNat s.geom.bytesPerRow.toNat)
        s.geom.bytesPerRow.toNat] := by
  simp [armTransfer]

/-- An armed transfer starts at the row's address where that fits (42_scanline_transfer.md R201). -/
theorem armTransfer_dma {s : State}
    (h : rowAddr s.params (lineOf s) s.geom.height.toNat s.fb.base.toNat s.geom.bytesPerRow.toNat < addressSpace s) :
    (armTransfer s).dma =
      ⟨BitVec.ofNat 32 (rowAddr s.params (lineOf s) s.geom.height.toNat s.fb.base.toNat s.geom.bytesPerRow.toNat),
        s.geom.bytesPerRow, true⟩ := by
  rw [armTransfer]
  simp only [emit_dma]
  rw [setDmaSrc_fits (by simpa [addressSpace] using h)]

/-- A line index fits LINE. -/
theorem toNat_ofNat_nextLine (l : Nat) : (BitVec.ofNat 10 (nextLine l)).toNat = nextLine l := by
  have h := nextLine_le l
  rw [BitVec.toNat_ofNat]
  exact Nat.mod_eq_of_lt (lt_of_le_of_lt h (by decide))

/-- The legal phase codes. -/
theorem phase_cases {c : BitVec 3} (h : c.toNat ≤ 5) :
    c = 0#3 ∨ c = 1#3 ∨ c = 2#3 ∨ c = 3#3 ∨ c = 4#3 ∨ c = 5#3 := by
  revert c
  decide

/-- What the transition of a legal phase can do (41_pulse_state_machine.md R163 to R168): one case for each rule and branch. -/
theorem takeTransition_cases {s t : State} (h : takeTransition s = .next t) (hp : s.seq.phase.toNat ≤ 5) :
    (s.seq.phase = 0#3 ∧
      t = programTimer (driveSync (setLine s (nextLine (lineOf s))) false)
        (if vis (nextLine (lineOf s)) || !longSync1 (nextLine (lineOf s)) then s.geom.dShortOn else s.geom.dLongOn)
        .sync1End) ∨
    (s.seq.phase = 1#3 ∧ vis (lineOf s) = true ∧
      t = programTimer (driveSync s true) s.geom.dFrontPorch .vidStart) ∨
    (s.seq.phase = 1#3 ∧ vis (lineOf s) = false ∧
      t = programTimer (driveSync s true) (if longSync1 (lineOf s) then s.geom.dLongOff else s.geom.dShortOff)
        .sync2Start) ∨
    (s.seq.phase = 2#3 ∧ mapped s.params (lineOf s) = true ∧
      t = programTimer (armTransfer (switchVideo s .serial)) s.geom.dActive .vidBackporch) ∨
    (s.seq.phase = 2#3 ∧ mapped s.params (lineOf s) = false ∧ t = programTimer s s.geom.dActive .vidBackporch) ∨
    (s.seq.phase = 3#3 ∧ t = programTimer (switchVideo s .plain) s.geom.dBackPorch .sync1Start) ∨
    (s.seq.phase = 4#3 ∧
      t = programTimer (driveSync s false) (if longSync2 (lineOf s) then s.geom.dLongOn else s.geom.dShortOn)
        .sync2End) ∨
    (s.seq.phase = 5#3 ∧
      t = programTimer (driveSync s true) (if longSync1 (lineOf s) then s.geom.dLongOff else s.geom.dShortOff)
        .sync1Start) := by
  unfold takeTransition at h
  rcases phase_cases hp with e | e | e | e | e | e <;> rw [e] at h ⊢
  · cases h
    simp
  · change execSync1End s = _ at h
    unfold execSync1End at h
    dsimp only at h
    split at h <;> (cases h; simp_all)
  · change execVidStart s = _ at h
    unfold execVidStart at h
    dsimp only at h
    split at h <;> (cases h; simp_all)
  all_goals
    cases h
    simp

end Machine
end Sys2Proof
end

