-- ==== Sys2Proof/Machine/Script.lean ====
section
/-! DEFINITION. Host scripts: the lines of 30_encoding.md R113, the scheduled steps each stands for, the pseudo-instructions of
R114 with their expansions, and the text of a line, written and read. -/

namespace Sys2Proof
namespace Machine

/-- One line of a host script (R113, R114). The answers of a CONFIGURE line are its `env:` comment. -/
inductive ScriptLine where
  | configure (vpin spin : BitVec 8) (w h : BitVec 16) (order : BitOrder) (env : HostAnswers)
  | teardown
  | rdreg (regno : BitVec 8)
  | tick
  | dmaByte
  | extHalt
  | write (addr : Word) (value : Byte)
  | ticks (n : Nat)
  | drain
  | untilPhase (p : Phase)
  deriving DecidableEq, Repr

/-- A scheduled step that asks the collaborators nothing: they answer as they do now. -/
def plainStep (s : State) (words : List Word) : ScheduledStep := ⟨words, s.answers⟩

/-- The words of a host command as a HOST_CMD event. -/
def commandEvent (c : Command) : List Word := 4#32 :: encode c.toInstr

/-- How many TICKs pass, at least one, until PHASE holds the code after a tick (R114), looking `fuel` ticks ahead. -/
def ticksUntilPhase (c : BitVec 3) : Nat → State → Option Nat
  | 0, _ => none
  | fuel + 1, s =>
    match exec .tick s with
    | .next t => if t.seq.phase = c then some 1 else (ticksUntilPhase c fuel t).map (· + 1)
    | .fault _ => none
    | .refused _ => none

/-- The scheduled steps a line stands for in a state. UNTIL_PHASE expands to nothing while the timer does not run, and looks
`fuel` ticks ahead (log entry 16). -/
def ScriptLine.expand (fuel : Nat) (s : State) : ScriptLine → List ScheduledStep
  | .configure vpin spin w h order env => [⟨commandEvent (.configure vpin spin order.bit w h), env⟩]
  | .teardown => [plainStep s (commandEvent .teardown)]
  | .rdreg regno => [plainStep s (commandEvent (.rdreg regno))]
  | .tick => [plainStep s (encode .tick)]
  | .dmaByte => [plainStep s (encode .dmaByte)]
  | .extHalt => [plainStep s (encode .extHalt)]
  | .write addr value => [plainStep s (encode (.hostWrite addr value))]
  | .ticks n => List.replicate n (plainStep s (encode .tick))
  | .drain => if s.dma.active then List.replicate s.dma.len.toNat (plainStep s (encode .dmaByte)) else []
  | .untilPhase p =>
    if s.tmr.ctrl.run then
      List.replicate ((ticksUntilPhase p.code fuel s).getD 0) (plainStep s (encode .tick))
    else []

/-- The name of a phase in a script. -/
def Phase.name : Phase → String
  | .sync1Start => "SYNC1_START"
  | .sync1End => "SYNC1_END"
  | .vidStart => "VID_START"
  | .vidBackporch => "VID_BACKPORCH"
  | .sync2Start => "SYNC2_START"
  | .sync2End => "SYNC2_END"
  | .reserved low => if low then "7" else "6"

/-- A host answer in the `env:` comment. -/
def answerText : Option Word → String
  | none => "FAIL"
  | some v => toString v.toNat

/-- The timer's answer in the `env:` comment. -/
def timerText : Option Word → String
  | none => "timer=FAIL"
  | some f => "timer=OK, freq=" ++ toString f.toNat

/-- The bit order operand of a CONFIGURE line. -/
def BitOrder.text : BitOrder → String
  | .msbFirst => "MSB"
  | .lsbFirst => "LSB"

/-- The text of a line, numbers in decimal (R113). -/
def ScriptLine.text : ScriptLine → String
  | .configure vpin spin w h order env =>
    "CONFIGURE vpin=" ++ toString vpin.toNat ++ ", spin=" ++ toString spin.toNat ++ ", w=" ++ toString w.toNat ++
      ", h=" ++ toString h.toNat ++ ", order=" ++ order.text ++ " ; env: fb=" ++ answerText env.fb ++ ", " ++
      timerText env.timer
  | .teardown => "TEARDOWN"
  | .rdreg regno => "RDREG " ++ toString regno.toNat
  | .tick => "TICK"
  | .dmaByte => "DMA_BYTE"
  | .extHalt => "EXT_HALT"
  | .write addr value => "WRITE " ++ toString addr.toNat ++ ", " ++ toString value.toNat
  | .ticks n => "TICKS " ++ toString n
  | .drain => "DRAIN"
  | .untilPhase p => "UNTIL_PHASE " ++ Phase.name p

/-! ### Reading the text of a line -/

/-- A word read so far, in front of the words that follow. -/
def closeWord (acc : List Char) (rest : List String) : List String :=
  if acc = [] then rest else String.ofList acc.reverse :: rest

/-- The words of a line: blanks, commas and equals signs separate them, and `;`, which starts a comment, is a word of its
own (R113). -/
def lineWords : List Char → List Char → List String
  | [], acc => closeWord acc []
  | c :: cs, acc =>
    if c = ';' then closeWord acc (";" :: lineWords cs [])
    else if c = ' ' ∨ c = '\t' ∨ c = ',' ∨ c = '=' then closeWord acc (lineWords cs [])
    else lineWords cs (c :: acc)

/-- The value of a digit, of either case. -/
def digitValue (c : Char) : Nat :=
  if '0' ≤ c ∧ c ≤ '9' then c.toNat - 48
  else if 'a' ≤ c ∧ c ≤ 'f' then c.toNat - 87
  else if 'A' ≤ c ∧ c ≤ 'F' then c.toNat - 55
  else 16

/-- The value of digits of a base, behind the digits already read. -/
def digitsValue (base : Nat) : List Char → Nat → Option Nat
  | [], v => some v
  | c :: cs, v => if digitValue c < base then digitsValue base cs (v * base + digitValue c) else none

/-- A number: decimal, or hexadecimal with `0x` (R113). -/
def numberOf (word : String) : Option Nat :=
  match word.toList with
  | [] => none
  | '0' :: 'x' :: c :: cs => digitsValue 16 (c :: cs) 0
  | cs => digitsValue 10 cs 0

/-- A number that fits an operand of `n` bits. -/
def operandOf (n : Nat) (word : String) : Option (BitVec n) :=
  match numberOf word with
  | some v => if v < 2 ^ n then some (BitVec.ofNat n v) else none
  | none => none

/-- The names of the registers, in the order of their numbers (10_state.md R49). -/
def registerNames : List String :=
  ["STATUS", "ACTIVE", "PHASE", "LINE", "WIDTH_PX", "BYTES_PER_ROW", "HEIGHT", "TICKS_PER_LINE", "D_SHORT_ON",
    "D_SHORT_OFF", "D_LONG_ON", "D_LONG_OFF", "D_FRONT_PORCH", "D_BACK_PORCH"] ++
  ["D_ACTIVE", "FB_BASE", "TMR_PERIOD", "TMR_COUNT", "TMR_CTRL", "PIN_STATE", "DMA_SRC", "DMA_LEN", "DMA_CTRL",
    "PIN_IDS", "CFG_MISC", "FAULT", "FB_SIZE"]

/-- A register's name or number. -/
def registerOf (word : String) : Option (BitVec 8) :=
  match registerNames.findIdx? (fun name => name == word) with
  | some k => some (BitVec.ofNat 8 k)
  | none => operandOf 8 word

/-- The phase a script names. -/
def phaseNamed (word : String) : Option Phase :=
  ((List.range 8).map (fun k => Phase.ofCode (BitVec.ofNat 3 k))).find? (fun p => Phase.name p == word)

/-- The bit order a CONFIGURE line names. -/
def orderNamed : String → Option BitOrder
  | "MSB" => some .msbFirst
  | "LSB" => some .lsbFirst
  | _ => none

/-- The provider's answer in the `env:` comment. -/
def fbAnswerOf : String → Option (Option Word)
  | "FAIL" => some none
  | word => (operandOf 32 word).map some

/-- The `env:` comment of a CONFIGURE line; words after it are another comment. -/
def envOf : List String → Option HostAnswers
  | "env:" :: "fb" :: fb :: "timer" :: "FAIL" :: _ => (fbAnswerOf fb).map (fun b => ⟨b, none⟩)
  | "env:" :: "fb" :: fb :: "timer" :: "OK" :: "freq" :: freq :: _ =>
    match fbAnswerOf fb, operandOf 32 freq with
    | some b, some f => some ⟨b, some f⟩
    | _, _ => none
  | _ => none

/-- The words before a comment. -/
def beforeComment (words : List String) : List String := words.takeWhile (fun word => word != ";")

/-- The words of a line's first comment and of what follows it. -/
def afterComment (words : List String) : List String := (words.dropWhile (fun word => word != ";")).drop 1

/-- The line its words stand for; `env` holds the words of its comment. -/
def lineOfWords (words env : List String) : Option ScriptLine :=
  match words with
  | ["CONFIGURE", "vpin", vpin, "spin", spin, "w", w, "h", h, "order", order] =>
    match operandOf 8 vpin, operandOf 8 spin, operandOf 16 w, operandOf 16 h, orderNamed order, envOf env with
    | some vp, some sp, some w', some h', some o, some e => some (.configure vp sp w' h' o e)
    | _, _, _, _, _, _ => none
  | ["TEARDOWN"] => some .teardown
  | ["RDREG", reg] => (registerOf reg).map .rdreg
  | ["TICK"] => some .tick
  | ["DMA_BYTE"] => some .dmaByte
  | ["EXT_HALT"] => some .extHalt
  | ["WRITE", addr, value] =>
    match operandOf 32 addr, operandOf 8 value with
    | some a, some v => some (.write a v)
    | _, _ => none
  | ["TICKS", n] => (numberOf n).map .ticks
  | ["DRAIN"] => some .drain
  | ["UNTIL_PHASE", phase] => (phaseNamed phase).map .untilPhase
  | _ => none

/-- The line a text stands for, or none where it is no line of R113 or R114. -/
def parseLine (text : String) : Option ScriptLine :=
  let words := lineWords text.toList []
  lineOfWords (beforeComment words) (afterComment words)

end Machine
end Sys2Proof
end

