-- ==== Sys2Proof/Tests/Slice0.lean ====
section
/-! SUPPORT. Tests. Every expected value is one of spec/: the encodings of 30_encoding.md, the vectors of 95_test_vectors.md
(L1, L2.1 to L2.4: T, D and H numbers) or an example of a rule. After them, for every obligation with hypotheses, a concrete
state that meets them all. -/

namespace Sys2Proof
namespace Tests
open Machine

/-! ### Helpers -/

/-- The next state of an outcome; the reset state where there is none. -/
def after : Host.Outcome State Fault Refusal → State
  | .next t => t
  | .fault _ => State.reset
  | .refused _ => State.reset

/-- The reset state with both collaborators answering. -/
def ready (base f : Word) : State := { State.reset with answers := ⟨some base, some f⟩ }

/-- "config A" of 95_test_vectors.md with FB_BASE 0x1000: pins 3 and 4, 128 x 96, MSB first, 1 MHz. -/
def sessionA : State := after (exec (.configure 3#8 4#8 false 128#16 96#16) (ready 0x1000#32 1000000#32))

/-- Config A with PHASE and LINE as given. -/
def atLine (p : BitVec 3) (l : Nat) : State := { sessionA with seq := ⟨p, BitVec.ofNat 10 l⟩ }

/-- Config A one tick before an expiry. -/
def due (p : BitVec 3) (l : Nat) : State := { atLine p l with tmr := { sessionA.tmr with count := 1#32 } }

/-- Config A just after the VID_START of a mapped line, with one byte of the row in memory. -/
def drawing : State := { after (exec .vidStart (atLine 2#3 140)) with mem := [(0x1300, 0xA5#8)] }

/-- The same with a byte step scheduled next. -/
def drawingByte : State := { drawing with script := [⟨[1#32], ⟨none, none⟩⟩] }

/-- Config A with its block faulted (T23). -/
def faulted : State := after (exec .tick (due 6#3 160))

/-- What T3 to T22 list: LINE, the sync level, VIDEO_MODE, TMR_PERIOD, TMR_COUNT and PHASE. -/
def shape (s : State) : Nat × Bool × VideoMode × Nat × Nat × BitVec 3 :=
  (s.seq.line.toNat, s.pins.syncLevel, s.pins.videoMode, s.tmr.period.toNat, s.tmr.count.toNat, s.seq.phase)

/-- The last answer on the result port. -/
def lastAnswer (s : State) : Option CommandResult := s.results.getLast?

/-! ### Well-formed instructions -/

theorem test_wf_refuses_configure_as_reserved : (Instr.reservedCmd 0x01030400#32).wf = false := by decide
theorem test_wf_refuses_teardown_as_reserved : (Instr.reservedCmd 0x02000000#32).wf = false := by decide
theorem test_wf_refuses_rdreg_as_reserved : (Instr.reservedCmd 0x0300001B#32).wf = false := by decide
theorem test_wf_refuses_second_word_of_one : (Instr.hostCmd 0x02000000#32 1#32).wf = false := by decide
theorem test_wf_accepts :
    (Instr.reservedCmd 0x01030402#32).wf = true ∧ (Instr.hostCmd 0x01030400#32 0x00800060#32).wf = true := by decide

/-! ### Decoding: every constructor, from words written out from 30_encoding.md -/

theorem test_decode_phases :
    decodeWhole .phase [0b000#32] = .ok .sync1Start ∧ decodeWhole .phase [0b001#32] = .ok .sync1End ∧
    decodeWhole .phase [0b010#32] = .ok .vidStart ∧ decodeWhole .phase [0b011#32] = .ok .vidBackporch ∧
    decodeWhole .phase [0b100#32] = .ok .sync2Start ∧ decodeWhole .phase [0b101#32] = .ok .sync2End ∧
    decodeWhole .phase [0b110#32] = .ok (.reservedPhase false) ∧
    decodeWhole .phase [0b111#32] = .ok (.reservedPhase true) ∧
    decodeWhole .phase [0b1000#32] = .error .notACode := by decide

/-- H1, H2 and the decoding check of L2.4: OPC, VPIN, SPIN, RSV0, BITORD and WIDTH, HEIGHT. -/
theorem test_decode_configure :
    decodeWhole .cmd [0b00000001000000110000010000000000#32, 0b00000000100000000000000001100000#32] =
      .ok (.configure 3#8 4#8 false 128#16 96#16) ∧
    decodeWhole .cmd [0x01030401#32, 0x00640060#32] = .ok (.configure 3#8 4#8 true 100#16 96#16) ∧
    decodeWhole .cmd [0x01030400#32] = .error .tooFewWords := by decide

theorem test_decode_teardown_rdreg :
    decodeWhole .cmd [0b00000010000000000000000000000000#32] = .ok .teardown ∧
    decodeWhole .cmd [0b00000011000000000000000000010011#32] = .ok (.rdreg 0x13#8) := by decide

/-- H12, H20, H28, H29: reserved opcodes and nonzero reserved fields; an illegal CONFIGURE takes its word 1 with it. -/
theorem test_decode_reserved :
    decodeWhole .cmd [0x01030402#32, 0x00800060#32] = .ok (.reservedCmd 0x01030402#32) ∧
    decodeWhole .cmd [0x02000001#32] = .ok (.reservedCmd 0x02000001#32) ∧
    decodeWhole .cmd [0x03000103#32] = .ok (.reservedCmd 0x03000103#32) ∧
    decodeWhole .cmd [0x00000000#32] = .ok (.reservedCmd 0#32) ∧
    decodeWhole .cmd [0x04000000#32] = .ok (.reservedCmd 0x04000000#32) ∧
    decodeWhole .cmd [0xFF123456#32] = .ok (.reservedCmd 0xFF123456#32) := by decide

theorem test_decode_events :
    decodeWhole .evt [0b000#32] = .ok .tick ∧ decodeWhole .evt [0b001#32] = .ok .dmaByte ∧
    decodeWhole .evt [0b010#32] = .ok .extHalt ∧
    decodeWhole .evt [0b011#32, 0x20000002#32, 0xA5#32] = .ok (.hostWrite 0x20000002#32 0xA5#8) ∧
    decodeWhole .evt [0b100#32, 0x02000000#32] = .ok (.hostCmd 0x02000000#32 0#32) ∧
    decodeWhole .evt [0b101#32] = .ok .reservedEvt101 ∧
    decodeWhole .evt [0b110#32] = .ok (.reservedEvt11x false) ∧
    decodeWhole .evt [0b111#32] = .ok (.reservedEvt11x true) := by decide

theorem test_decode_rejects :
    decodeWhole .evt [0b011#32, 0x20000002#32, 0x100#32] = .error .notAByte ∧
    decodeWhole .evt [8#32] = .error .notACode ∧ decodeWhole .evt [4#32, 0x01000000#32] = .error .tooFewWords ∧
    decodeWhole .cmd [0x02000000#32, 0#32] = .error .trailingWords := by decide

/-- The rows of spec/opcode_table.json, in its numbering. -/
theorem test_decode_table_words :
    decodeTableWord 8 4 = some .sync2Start ∧ decodeTableWord 8 6 = some (.reservedPhase false) ∧
    decodeTableWord 32 0x01030400 = some (.configure 3#8 4#8 false 0#16 0#16) ∧
    decodeTableWord 32 0x02000000 = some .teardown ∧ decodeTableWord 32 0x03000019 = some (.rdreg 0x19#8) ∧
    decodeTableWord 32 0x04000000 = some (.reservedCmd 0x04000000#32) := by decide

theorem test_encode_configure :
    encode (.configure 3#8 4#8 false 128#16 96#16) = [0x01030400#32, 0x00800060#32] := by decide

/-! ### What the next step fetches -/

theorem test_fetch_phase : shape (after (step (State.reset.withFetchWord 8 0))) =
    (1, false, .plain, 0, 0, 1#3) := by decide
theorem test_fetch_reserved_phase :
    (after (step (State.reset.withFetchWord 8 7))).ctl.fault = ⟨true, 1#4⟩ := by decide
theorem test_fetch_command : lastAnswer (after (step ((ready 0#32 0#32).withFetchWord 32 0x01030400))) =
    some ⟨3#8, 0#32⟩ := by decide

/-! ### The Line/Field Sequencer: L2.1 -/

theorem test_line_predicates :
    [0, 2, 3, 4, 5, 274, 275, 309, 310, 312, 313, 315, 317, 586, 587, 622, 623, 624].map
      (fun l => [vis l, longSync1 l, longSync2 l, mapped .default l]) =
    [[false, true, true, false], [false, true, false, false], [false, false, false, false], [false, false, false, false],
      [true, false, false, true], [true, false, false, true], [true, false, false, false], [true, false, false, false],
      [false, false, false, false], [false, false, true, false], [false, true, true, false], [false, false, false, false],
      [true, false, false, true], [true, false, false, true], [true, false, false, false], [true, false, false, false],
      [false, false, false, false], [false, false, false, false]] := by decide

theorem test_line_in_field :
    [0, 5, 140, 309, 311, 312, 317, 452, 622].map (lineInField .default) = [-5, 0, 135, 304, 306, -5, 0, 135, 305] := by
  decide

/-- The row table of L2.1 and the source's examples L1.2 and L1.4. -/
theorem test_rows :
    row .default 140 96 = 48 ∧ row .default 452 96 = 48 ∧ row .default 160 96 = 55 ∧ row .default 274 96 = 95 ∧
    row .default 139 300 = 148 ∧ row .default 274 65535 = 65292 ∧ rowAddr .default 274 96 0x1000 16 = 0x15F0 := by decide

/-! ### TICK and the transitions: L2.2 -/

/-- T1 and T2. -/
theorem test_tick_counts :
    (after (exec .tick { sessionA with tmr := { sessionA.tmr with count := 3#32 } })).tmr.count = 2#32 ∧
    (after (exec .tick { State.reset with tmr := { State.reset.tmr with count := 3#32 } })).tmr.count = 3#32 := by decide
/-- T24. -/
theorem test_tick_masked :
    shape (after (exec .tick { due 0#3 160 with tmr := ⟨7#32, 1#32, ⟨true, false⟩⟩ })) =
      (160, true, .plain, 7, 7, 0#3) := by decide

/-- T3 and T7, by the expiry. -/
theorem test_sync1Start_long :
    shape (after (exec .tick (due 0#3 0))) = (1, false, .plain, 27, 27, 1#3) ∧
    shape (after (exec .tick (due 0#3 624))) = (0, false, .plain, 27, 27, 1#3) := by decide
/-- T4, T5, T6 and T8. -/
theorem test_sync1Start_short :
    [exec .sync1Start (atLine 0#3 2), exec .sync1Start (atLine 0#3 4), exec .sync1Start (atLine 0#3 623), exec .sync1Start (atLine 0#3 311)].map
      (fun o => shape (after o)) =
    [(3, false, .plain, 5, 5, 1#3), (5, false, .plain, 5, 5, 1#3), (624, false, .plain, 5, 5, 1#3), (312, false, .plain, 5, 5, 1#3)] := by decide
/-- T9. -/
theorem test_sync1End_visible :
    shape (after (exec .sync1End (atLine 1#3 160))) = (160, true, .plain, 8, 8, 2#3) := by decide
/-- T10 and T11. -/
theorem test_sync1End_blank :
    shape (after (exec .sync1End (atLine 1#3 1))) = (1, true, .plain, 5, 5, 4#3) ∧
    shape (after (exec .sync1End (atLine 1#3 3))) = (3, true, .plain, 27, 27, 4#3) := by decide
/-- T12. -/
theorem test_vidStart_mapped :
    shape (after (exec .vidStart (atLine 2#3 160))) = (160, true, .serial, 44, 44, 3#3) ∧
    (after (exec .vidStart (atLine 2#3 160))).dma = ⟨0x1370#32, 16#14, true⟩ ∧
    (after (exec .vidStart (atLine 2#3 160))).trace.drop 1 = [.vmode 0 .serial, .arm 0 160 55 0x1370 16] := by decide
/-- T13 and T14: an unmapped line, and a transfer superseded. -/
theorem test_vidStart_corners :
    shape (after (exec .vidStart (atLine 2#3 300))) = (300, true, .plain, 44, 44, 3#3) ∧
    (after (exec .vidStart (atLine 2#3 300))).dma = ⟨0#32, 0#14, false⟩ ∧
    (after (exec .vidStart { atLine 2#3 6 with dma := ⟨0x1008#32, 8#14, true⟩ })).dma = ⟨0x1000#32, 16#14, true⟩ := by decide
/-- T15. -/
theorem test_vidBackporch_serial :
    shape (after (exec .vidBackporch drawing)) = (140, true, .plain, 7, 7, 0#3) ∧
    (after (exec .vidBackporch drawing)).trace.getLast? = some (.vmode 0 .plain) := by decide
/-- T16. -/
theorem test_vidBackporch_plain :
    (after (exec .vidBackporch (atLine 3#3 300))).trace = sessionA.trace := by decide
/-- T17, T18 and T19. -/
theorem test_sync2Start :
    [exec .sync2Start (atLine 4#3 312), exec .sync2Start (atLine 4#3 2), exec .sync2Start (atLine 4#3 0)].map
      (fun o => shape (after o)) =
    [(312, false, .plain, 27, 27, 5#3), (2, false, .plain, 5, 5, 5#3), (0, false, .plain, 27, 27, 5#3)] := by decide
/-- T20, T21 and T22. -/
theorem test_sync2End :
    [exec .sync2End (atLine 5#3 2), exec .sync2End (atLine 5#3 312), exec .sync2End (atLine 5#3 313)].map
      (fun o => shape (after o)) =
    [(2, true, .plain, 5, 5, 0#3), (312, true, .plain, 27, 27, 0#3), (313, true, .plain, 5, 5, 0#3)] := by decide
/-- T23 and H30. -/
theorem test_reservedPhase :
    readRegister faulted 0x19#8 = some 0x11#32 ∧ readRegister faulted 0x12#8 = some 2#32 ∧ faulted.seq.phase = 6#3 ∧
    faulted.trace.getLast? = some (.fault 1 1#4) := by decide

/-- The line lengths of L2.2 at T = 64: lines 5, 3, 1, 2 and 312. -/
theorem test_line_lengths :
    [4, 2, 0, 1, 311].map (fun l => (transitions 4 (atLine 0#3 l)).map Prod.snd) =
      [some 64, some 64, some 64, some 42, some 86] := by decide

/-! ### The byte step and the pixels: L2.3 -/

/-- D1. -/
theorem test_dmaByte_shown :
    (after (exec .dmaByte drawing)).dma = ⟨0x1301#32, 15#14, true⟩ ∧
    (after (exec .dmaByte drawing)).trace.getLast? = some (.pix 0 0xA5#8 .msbFirst) := by decide
/-- D2 and D4: the last byte, and a lost one. -/
theorem test_dmaByte_last_and_lost :
    (after (exec .dmaByte { drawing with dma := ⟨0x130F#32, 1#14, true⟩ })).dma = ⟨0x1310#32, 0#14, false⟩ ∧
    (after (exec .dmaByte { sessionA with dma := ⟨0x1308#32, 8#14, true⟩ })).trace.getLast? = some (.lost 0 0#8) := by
  decide

theorem test_pixels :
    pixelsOf .msbFirst 0xA5#8 = [true, false, true, false, false, true, false, true] ∧
    pixelsOf .msbFirst 0x0F#8 = [false, false, false, false, true, true, true, true] ∧
    pixelsOf .lsbFirst 0x0F#8 = [true, true, true, true, false, false, false, false] := by decide

/-! ### The host: L2.4 -/

/-- H1: the registers in the order of 10_state.md R49. -/
theorem test_configure_ok :
    (List.range 0x1B).map (fun r => readRegister sessionA (BitVec.ofNat 8 r)) =
      [0, 1, 0, 0, 128, 16, 96, 64, 5, 27, 27, 5, 8, 7, 44, 0x1000, 64, 64, 3, 0x0B, 0, 0, 0, 0x0403, 0, 0, 1536].map
        (fun v => some (BitVec.ofNat 32 v)) ∧
    lastAnswer sessionA = some ⟨0#8, 0x1000#32⟩ ∧ sessionA.trace = [.cfg 0 .ok] := by decide
/-- H4, H6, H7, H8, H9, H10, H13, H17 and H22: the checks of R231 in their order. -/
theorem test_configure_fails :
    [exec (.configure 3#8 4#8 false 8#16 1#16) (ready 0#32 203124#32),
      exec (.configure 3#8 4#8 false 128#16 96#16) ⟨.reset, .reset, .reset, .reset, .reset, .reset, .reset, 0, [], [], [],
        .default, [], ⟨none, some 1000000#32⟩, 0, 0⟩,
      exec (.configure 3#8 4#8 false 128#16 96#16) ⟨.reset, .reset, .reset, .reset, .reset, .reset, .reset, 0, [], [], [],
        .default, [], ⟨some 0#32, none⟩, 0, 0⟩,
      exec (.configure 3#8 4#8 false 128#16 96#16) State.reset,
      exec (.configure 3#8 3#8 false 128#16 96#16) (ready 0#32 1000000#32),
      exec (.configure 3#8 4#8 false 0#16 96#16) (ready 0#32 1000000#32),
      exec (.configure 3#8 4#8 false 128#16 96#16) sessionA,
      exec (.configure 3#8 4#8 false 128#16 2#16) (ready 0xFFFFFFE1#32 1000000#32),
      exec (.configure 3#8 4#8 false 128#16 2#16) faulted].map (fun o => (lastAnswer (after o)).map (fun r => r.status.toNat)) =
    [some 6, some 4, some 5, some 4, some 3, some 3, some 2, some 4, some 7] := by decide

/-- H18 and H21. -/
theorem test_teardown :
    readRegister (after (exec .teardown drawing)) 0x10#8 = some 0#32 ∧
    (after (exec .teardown drawing)).dma = ⟨0#32, 0#14, false⟩ ∧
    (after (exec .teardown drawing)).pins = Pins.reset ∧
    lastAnswer (after (exec .teardown faulted)) = some ⟨7#8, 0#32⟩ := by decide
/-- H23 to H28. -/
theorem test_rdreg :
    [0x07, 0x05, 0x13, 0x1A, 0x1B].map (fun r => lastAnswer (after (exec (.rdreg (BitVec.ofNat 8 r)) sessionA))) =
      [some ⟨0#8, 64#32⟩, some ⟨0#8, 16#32⟩, some ⟨0#8, 0x0B#32⟩, some ⟨0#8, 1536#32⟩, some ⟨1#8, 0#32⟩] := by decide
/-- H29. -/
theorem test_reservedCmd :
    lastAnswer (after (exec (.reservedCmd 0xFF123456#32) sessionA)) = some ⟨1#8, 0#32⟩ ∧
    (after (exec (.reservedCmd 0xFF123456#32) sessionA)).trace = sessionA.trace := by decide
/-- H1 and H12 through HOST_CMD. -/
theorem test_hostCmd :
    lastAnswer (after (exec (.hostCmd 0x01030400#32 0x00800060#32) (ready 0x20000000#32 1000000#32))) =
      some ⟨0#8, 0x20000000#32⟩ ∧
    lastAnswer (after (exec (.hostCmd 0x01030402#32 0x00800060#32) (ready 0x20000000#32 1000000#32))) =
      some ⟨1#8, 0#32⟩ := by decide
/-- H31. -/
theorem test_extHalt :
    readRegister (after (exec .extHalt sessionA)) 0x12#8 = some 2#32 ∧
    (after (exec .extHalt sessionA)).trace.getLast? = some (.halt 0) ∧
    (after (exec .extHalt sessionA)).pins = sessionA.pins := by decide
/-- H33, and that the memory keeps its form: two writes out of order, and a zero written back. -/
theorem test_hostWrite :
    (after (exec (.hostWrite 0x20000002#32 0xA5#8) sessionA)).mem = [(0x20000002, 0xA5#8)] ∧
    (after (exec (.hostWrite 1#32 0xFF#8) (after (exec (.hostWrite 2#32 0x0F#8) sessionA)))).mem =
      [(1, 0xFF#8), (2, 0x0F#8)] ∧
    (after (exec (.hostWrite 0x1300#32 0#8) drawing)).mem = [] := by decide

/-! ### Reset, and the scripts of 30_encoding.md R113 and R114 -/

/-- R300 and R263: reset clears the fault and leaves host memory alone. -/
theorem test_reset :
    readRegister (powerOn faulted) 0x19#8 = some 0#32 ∧ (powerOn drawing).mem = drawing.mem ∧ (powerOn drawing).trace = [] := by
  decide
/-- The CONFIGURE line of L3.1, TICKS, DRAIN with 16 bytes left and with none, and UNTIL_PHASE on a running and on a stopped
timer: two ticks of 1 and 27 lead from the last tick of SYNC1_START's period to PHASE SYNC2_START. -/
theorem test_script_lines :
    (ScriptLine.configure 3#8 4#8 128#16 96#16 .msbFirst ⟨some 0x20000000#32, some 1000000#32⟩).expand 0 sessionA =
      [⟨[4#32, 0x01030400#32, 0x00800060#32], ⟨some 0x20000000#32, some 1000000#32⟩⟩] ∧
    ((ScriptLine.ticks 44).expand 0 sessionA).length = 44 ∧ (ScriptLine.drain.expand 0 drawing).length = 16 ∧
    ScriptLine.drain.expand 0 sessionA = [] ∧
    ((ScriptLine.untilPhase .sync2Start).expand 40 (due 0#3 0)).length = 28 ∧
    (ScriptLine.untilPhase .sync2Start).expand 40 State.reset = [] := by decide

/-- Lines of L3.1 and L3.3, with their comments, and a line that is none. -/
theorem test_script_text :
    parseLine "CONFIGURE vpin=3, spin=4, w=128, h=96, order=MSB ; env: fb=0x20000000, timer=OK, freq=1000000   ; 0x01030400" =
      some (.configure 3#8 4#8 128#16 96#16 .msbFirst ⟨some 0x20000000#32, some 1000000#32⟩) ∧
    parseLine "CONFIGURE vpin=3, spin=4, w=100, h=96, order=LSB ; env: fb=FAIL, timer=FAIL" =
      some (.configure 3#8 4#8 100#16 96#16 .lsbFirst ⟨none, none⟩) ∧
    parseLine "WRITE 0x20000002, 0xA5" = some (.write 0x20000002#32 0xA5#8) ∧
    parseLine "RDREG TICKS_PER_LINE ; 0x03000007" = some (.rdreg 7#8) ∧ parseLine "RDREG 0x1B" = some (.rdreg 0x1B#8) ∧
    parseLine "TICKS 311" = some (.ticks 311) ∧ parseLine "UNTIL_PHASE VID_START" = some (.untilPhase .vidStart) ∧
    parseLine "WRITE 0, 256" = none := by decide
theorem test_script_text_round :
    parseLine (ScriptLine.configure 3#8 4#8 128#16 96#16 .msbFirst ⟨some 32#32, some 1000000#32⟩).text =
      some (.configure 3#8 4#8 128#16 96#16 .msbFirst ⟨some 32#32, some 1000000#32⟩) := by decide

/-! ### Witnesses: the hypotheses of each obligation, met together, at the boundaries of its clauses -/

/-- Config A on line 140 with no transfer left over, as a state of the invariant. -/
theorem sessionA_inv : Inv sessionA := by constructor <;> decide
/-- With a transfer in flight too. -/
theorem drawing_inv : Inv drawing := by constructor <;> decide

theorem drawingByte_next : nextInstr drawingByte = .ok .dmaByte := rfl

theorem witness_LineClassification :
    Params.default.field2Base = 312 ∧ Params.default.vblankAllow = 5 ∧
    [0, 1, 2, 3, 4, 5, 274, 275, 309, 310, 311, 312, 313, 314, 315, 316, 317, 586, 587, 622, 623, 624].all
      (fun l => decide (l ≤ 624)) = true := by decide

theorem witness_SequencerLaws :
    vis 5 = true ∧ vis 622 = true ∧ mapped .default 5 = true ∧ mapped .default 274 = true ∧
    lineInField .default 5 ≤ lineInField .default 274 ∧ Params.default.field2Base = 312 ∧ Params.default.vblankAllow = 5 := by
  decide

theorem witness_RowAndRowAddress : mapped .default 317 = true ∧ mapped .default 586 = true ∧ 1 ≤ 96 := by decide

theorem witness_TickStep :
    State.reset.tmr.ctrl.run = false ∧ sessionA.tmr.ctrl.run = true ∧ 2 ≤ sessionA.tmr.count.toNat ∧
    (due 0#3 0).tmr.ctrl = ⟨true, true⟩ ∧ (due 0#3 0).tmr.count.toNat ≤ 1 := by decide
theorem witness_TickStep_masked :
    ({ due 0#3 0 with tmr := ⟨7#32, 0#32, ⟨true, false⟩⟩ } : State).tmr.ctrl.run = true ∧
    ({ due 0#3 0 with tmr := ⟨7#32, 0#32, ⟨true, false⟩⟩ } : State).tmr.count.toNat ≤ 1 ∧
    ({ due 0#3 0 with tmr := ⟨7#32, 0#32, ⟨true, false⟩⟩ } : State).tmr.ctrl.irqEn = false := by decide

theorem witness_ExpiryDispatch :
    ([0, 1, 2, 3, 4, 5, 6, 7].all fun c =>
      (due (BitVec.ofNat 3 c) 160).tmr.ctrl.run && (due (BitVec.ofNat 3 c) 160).tmr.ctrl.irqEn &&
        decide ((due (BitVec.ofNat 3 c) 160).tmr.count.toNat ≤ 1) &&
        decide ((due (BitVec.ofNat 3 c) 160).seq.phase = BitVec.ofNat 3 c)) = true := by decide

theorem witness_NextExpiryAfterCountTicks :
    sessionA.tmr.ctrl.run = true ∧ 1 ≤ sessionA.tmr.count.toNat ∧ 63 < sessionA.tmr.count.toNat ∧
    sessionA.tmr.ctrl.irqEn = true ∧ 1 ≤ (due 0#3 0).tmr.count.toNat := by decide

theorem witness_Sync1StartTransition :
    0 = (if (atLine 0#3 624).seq.line.toNat + 1 > 624 then 0 else (atLine 0#3 624).seq.line.toNat + 1) ∧
    27#32 = (if vis 0 = true ∨ longSync1 0 = false then sessionA.geom.dShortOn else sessionA.geom.dLongOn) := by decide
theorem witness_Sync1EndTransition :
    vis (atLine 1#3 309).seq.line.toNat = true ∧ vis (atLine 1#3 310).seq.line.toNat = false := by decide
theorem witness_VidStartArmsMappedLine :
    mapped sessionA.params (atLine 2#3 586).seq.line.toNat = true ∧
    sessionA.fb.base.toNat + row sessionA.params 586 sessionA.geom.height.toNat * sessionA.geom.bytesPerRow.toNat <
      2 ^ sessionA.params.addrWidth.val := by decide
theorem witness_VidStartLeavesUnmappedLineBlank : mapped sessionA.params (atLine 2#3 587).seq.line.toNat = false := by decide
theorem witness_Sync2StartTransition : 27#32 =
    (if longSync2 (atLine 4#3 312).seq.line.toNat = true then sessionA.geom.dLongOn else sessionA.geom.dShortOn) := by decide
theorem witness_Sync2EndTransition : 27#32 =
    (if longSync1 (atLine 5#3 312).seq.line.toNat = true then sessionA.geom.dLongOff else sessionA.geom.dShortOff) := by decide

theorem witness_PhaseSuccessor :
    ([0, 1, 2, 3, 4, 5].all fun c => decide ((atLine (BitVec.ofNat 3 c) 160).seq.phase.toNat ≤ 5)) = true := by decide
theorem witness_DurationTable_visible :
    (atLine 2#3 622).seq.phase.toNat ≤ 5 ∧
    ∃ t, exec (Phase.ofCode (atLine 2#3 622).seq.phase).toInstr (atLine 2#3 622) = .next t ∧ vis t.seq.line.toNat = true :=
  ⟨by decide, _, rfl, by decide⟩
theorem witness_DurationTable_blank :
    (atLine 0#3 622).seq.phase.toNat ≤ 5 ∧
    ∃ t, exec (Phase.ofCode (atLine 0#3 622).seq.phase).toInstr (atLine 0#3 622) = .next t ∧ vis t.seq.line.toNat = false :=
  ⟨by decide, _, rfl, by decide⟩

theorem witness_CycleClosure :
    (atLine 0#3 624).seq.phase = 0#3 ∧ (atLine 0#3 624).seq.line.toNat ≤ 624 ∧
    ∃ t n, transitions 3 (atLine 0#3 624) = some (t, n) := ⟨by decide, by decide, _, _, rfl⟩
/-- One line of each class: 5, 3, 1, 2 and 312. -/
theorem witness_LineLengths :
    sessionA.seq.phase = 0#3 ∧ sessionA.ctl.active = true ∧ Inv sessionA ∧
    [4, 2, 0, 1, 311].map (fun l => (transitions 4 (atLine 0#3 l)).map
      (fun r => [vis r.1.seq.line.toNat, longSync1 r.1.seq.line.toNat, longSync2 r.1.seq.line.toNat])) =
    [some [true, false, false], some [false, false, false], some [false, true, true], some [false, true, false],
      some [false, false, true]] := ⟨by decide, by decide, sessionA_inv, by decide⟩
theorem witness_FrameLength :
    Inv sessionA ∧ sessionA.ctl.active = true ∧ sessionA.seq.phase = 0#3 ∧ sessionA.geom.dShortOn = sessionA.geom.dLongOff ∧
      sessionA.geom.dShortOff = sessionA.geom.dLongOn := ⟨sessionA_inv, by decide⟩

/-- Both sides of the enabling condition, and the whole transfer of one row. -/
theorem witness_transfers :
    drawing.dma.active = true ∧ drawing.ctl.fault.faulted = false ∧ 1 ≤ drawing.dma.len.toNat ∧
    drawing.pins.videoMode = .serial ∧
    drawing.dma.src.toNat + drawing.dma.len.toNat < 2 ^ drawing.params.addrWidth.val ∧ sessionA.dma.active = false := by decide
/-- A transfer that ends with the last address: the row fits, its successor does not. -/
theorem witness_transfer_at_the_top :
    ∃ s : State, s.dma.active = true ∧ s.ctl.fault.faulted = false ∧ s.dma.src.toNat < 2 ^ s.params.addrWidth.val ∧
      1 ≤ s.dma.len.toNat ∧ s.dma.src.toNat + s.dma.len.toNat = 2 ^ s.params.addrWidth.val :=
  ⟨{ drawing with dma := ⟨0xFFFFFFF0#32, 16#14, true⟩ }, by decide⟩
theorem witness_RowPixelOrder :
    ∃ s t : State, s.dma.active = true ∧ s.ctl.fault.faulted = false ∧ 1 ≤ s.dma.len.toNat ∧
      s.dma.src.toNat + s.dma.len.toNat ≤ 2 ^ s.params.addrWidth.val ∧ s.pins.videoMode = .serial ∧
      execAll (List.replicate s.dma.len.toNat .dmaByte) s = .next t :=
  ⟨{ drawing with dma := ⟨0x1300#32, 1#14, true⟩ }, _, by decide, by decide, by decide, by decide, by decide, rfl⟩
theorem witness_OnlyVidStartArms :
    ∃ t, exec .vidStart (atLine 2#3 160) = .next t ∧
      TraceEvent.arm 0 160 55 0x1370 16 ∈ t.trace.drop (atLine 2#3 160).trace.length ∧
      (atLine 2#3 160).dma.active = false ∧ t.dma.active = true := ⟨_, rfl, by decide⟩
theorem witness_EngineOnlyReads : ∃ t, exec .dmaByte drawing = .next t := ⟨_, rfl⟩
theorem drawingByte_throughputOk : throughputOk drawingByte :=
  ⟨fun h => absurd h (by rw [drawingByte_next]; decide), fun word0 word1 h => absurd h (by rw [drawingByte_next]; simp)⟩

/-- The two steps THROUGHPUT_OK speaks of: a byte of a shown row, and an expiry with none in flight. -/
theorem witness_ThroughputOkLosesNoByte :
    ∃ s t : State, Inv s ∧ (s.dma.active = true → s.pins.videoMode = .serial) ∧ throughputOk s ∧ s.dma.active = true ∧
      step s = .next t :=
  ⟨drawingByte, _, by constructor <;> decide, by decide, drawingByte_throughputOk, by decide, rfl⟩
theorem witness_ThroughputOkLosesNoByte_expiry :
    ∃ s t : State, Inv s ∧ (s.dma.active = true → s.pins.videoMode = .serial) ∧ throughputOk s ∧ expires s = true ∧
      step s = .next t :=
  ⟨due 0#3 4, _, by constructor <;> decide, by decide, ⟨fun _ _ => rfl, fun _ _ _ _ => rfl⟩, by decide, rfl⟩

/-- The same with the last byte of the row left. -/
def lastByte : State := { drawingByte with dma := ⟨0x130F#32, 1#14, true⟩ }

/-- A run that meets THROUGHPUT_OK with a transfer in flight: the last byte of the row. -/
theorem witness_ThroughputOkRunShowsWholeRows :
    Inv lastByte ∧ (lastByte.dma.active = true → lastByte.pins.videoMode = .serial) ∧ throughputOkRun 1 lastByte ∧
      ∃ t, stateAfter 1 lastByte = some t := by
  have hn : nextInstr lastByte = .ok .dmaByte := rfl
  refine ⟨by constructor <;> decide, by decide, ⟨?_, ?_⟩, _, rfl⟩
  · intro k hk u hu
    obtain rfl : k = 0 := by omega
    cases hu
    exact ⟨fun h => absurd h (by rw [hn]; decide), fun word0 word1 h => absurd h (by rw [hn]; simp)⟩
  · intro t ht
    cases ht
    decide
/-- A TEARDOWN that drops a row half read breaks THROUGHPUT_OK. -/
theorem test_throughputOk_teardown :
    ¬ throughputOk { drawing with script := [⟨[4#32, 0x02000000#32], ⟨none, none⟩⟩] } := fun h =>
  absurd (h.2 0x02000000#32 0#32 rfl rfl) (by decide)
/-- The rows of a trace: shown whole, superseded, truncated at VID_BACKPORCH (L3.4), and dropped by a TEARDOWN. -/
theorem test_bytesLeft :
    bytesLeft 0 [.vmode 1 .serial, .arm 1 5 0 0 2, .pix 1 0#8 .msbFirst, .halt 1, .pix 1 0#8 .msbFirst, .vmode 2 .plain] =
      some 0 ∧
    bytesLeft 0 [.arm 1 5 0 0 2, .pix 1 0#8 .msbFirst, .arm 2 6 0 0 2] = none ∧
    bytesLeft 0 [.arm 1 5 0 0 2, .pix 1 0#8 .msbFirst, .vmode 2 .plain] = none ∧
    bytesLeft 0 [.arm 1 5 0 0 2, .pix 1 0#8 .msbFirst, .down 2] = none ∧
    bytesLeft 0 [.arm 1 5 0 0 2, .lost 1 0#8] = none := by decide

theorem witness_PinLevels :
    sessionA.pins.syncDriven = true ∧ State.reset.pins.syncDriven = false ∧ State.reset.pins.videoDriven = false ∧
    sessionA.pins.videoDriven = true ∧ sessionA.pins.videoMode = .plain ∧ drawing.pins.videoDriven = true ∧
    drawing.pins.videoMode = .serial := by decide
/-- A byte step in each state of the pin: SERIAL, PLAIN and not driven. -/
theorem witness_PinLevels_byte :
    ∃ p r t u v, p.pins.videoDriven = true ∧ p.pins.videoMode = .plain ∧ r.pins.videoDriven = false ∧
      exec .dmaByte drawing = .next t ∧ exec .dmaByte p = .next u ∧ exec .dmaByte r = .next v :=
  ⟨{ sessionA with dma := ⟨0x1308#32, 8#14, true⟩ }, { drawing with pins := Pins.reset }, _, _, _, by decide, by decide,
    by decide, rfl, rfl, rfl⟩
/-- The byte 0x0F of L2.3 on the pin, most significant bit first: four low, four high. -/
theorem test_video_pin_shows_pixels :
    (videoWave 1 { drawingByte with mem := [(0x1300, 0x0F#8)] }).take 8 =
      [.driven false, .driven false, .driven false, .driven false, .driven true, .driven true, .driven true,
        .driven true] := by decide

/-- The state of each check of CONFIGURE: faulted, busy, and idle with each answer at its boundary. -/
theorem witness_ConfigureChecksInOrder :
    faulted.ctl.fault.faulted = true ∧ sessionA.ctl.fault.faulted = false ∧ sessionA.ctl.active = true ∧
    (ready 0xFFFFFFE1#32 1000000#32).ctl.active = false ∧
    2 ^ (ready 0xFFFFFFE1#32 1000000#32).params.addrWidth.val < (0xFFFFFFE1#32 : Word).toNat + (128 + 7) / 8 * 2 ∧
    (0xFFFFFFE0#32 : Word).toNat + (128 + 7) / 8 * 2 ≤ 2 ^ (ready 0xFFFFFFE0#32 203124#32).params.addrWidth.val ∧
    rateOk (ready 0xFFFFFFE0#32 203124#32).params (203124 / 15625) = false ∧ State.reset.answers = ⟨none, none⟩ := by decide
theorem witness_RateCheck :
    Params.default.kShortOn = 5 ∧ Params.default.kShortOff = 27 ∧ Params.default.kLongOn = 27 ∧ Params.default.kLongOff = 5 ∧
    Params.default.kFrontPorch = 8 ∧ Params.default.kBackPorch = 7 ∧ rateOk .default (203125 / 15625) = true := by decide
/-- H15: the largest picture there is. -/
theorem witness_ConfigureStartsSession :
    (ready 0#32 203125#32).ctl.fault.faulted = false ∧ (ready 0#32 203125#32).ctl.active = false ∧ 65535#16 ≠ 0#16 ∧
    3#8 ≠ 4#8 ∧ (0#32 : Word).toNat + ((65535#16).toNat + 7) / 8 * (65535#16).toNat ≤
      2 ^ (ready 0#32 203125#32).params.addrWidth.val ∧
    13 = (203125#32 : Word).toNat / 15625 ∧ rateOk (ready 0#32 203125#32).params 13 = true := by decide
theorem witness_TeardownResult : faulted.ctl.fault.faulted = true ∧ drawing.ctl.fault.faulted = false := by decide
theorem witness_RdregAnswersRegister : 0x1B ≤ (0x1B#8).toNat ∧ 0x1B ≤ (0xFF#8).toNat ∧ (0x1A#8).toNat < 27 := by decide
/-- Each of the four kinds of reserved word, at a boundary. -/
theorem witness_ReservedCommandIsRejected :
    ((0x04000000#32).toNat / 2 ^ 24 ≠ 1 ∧ (0x04000000#32).toNat / 2 ^ 24 ≠ 2 ∧ (0x04000000#32).toNat / 2 ^ 24 ≠ 3) ∧
    (0x01030402#32).toNat / 2 ^ 24 = 1 ∧ (0x01030402#32).toNat / 2 % 2 ^ 7 ≠ 0 ∧
    (0x02000001#32).toNat / 2 ^ 24 = 2 ∧ (0x02000001#32).toNat % 2 ^ 24 ≠ 0 ∧
    (0x03000103#32).toNat / 2 ^ 24 = 3 ∧ (0x03000103#32).toNat / 2 ^ 8 % 2 ^ 16 ≠ 0 := by decide
/-- L3.3: the same geometry twice, with another base and other pins. -/
theorem witness_ConfigureIsIdempotent :
    ∃ s s' t t' : State, s.ctl.active = false ∧ s'.ctl.active = false ∧ s.params = s'.params ∧
      s.answers.timer = s'.answers.timer ∧ exec (.configure 3#8 4#8 true 100#16 96#16) s = .next t ∧
      exec (.configure 5#8 6#8 true 100#16 96#16) s' = .next t' ∧ t.ctl.active = true ∧ t'.ctl.active = true :=
  ⟨ready 0x20000000#32 84000000#32, ready 0x20004000#32 84000000#32, _, _, by decide, by decide, by decide, by decide, rfl,
    rfl, by decide, by decide⟩
theorem witness_StatusCodesProduced :
    ∃ t u, exec .tick sessionA = .next t ∧ exec .teardown sessionA = .next u := ⟨_, _, rfl, rfl⟩

theorem witness_ExtHaltResult : sessionA.tmr.ctrl.run = true ∧ State.reset.tmr.ctrl.run = false := by decide
theorem witness_StoppedTimerFreezesOutputs :
    (ready 0#32 1000000#32).tmr.ctrl.run = false ∧
    ∃ t, exec (.hostCmd 0x01030400#32 0x00800060#32) (ready 0#32 1000000#32) = .next t ∧ t.tmr.ctrl.run = true :=
  ⟨by decide, _, rfl, by decide⟩
/-- A transfer in flight on a stopped timer, and the steps that go on there: D6's byte, a tick, and an RDREG by its words. -/
theorem witness_StoppedTimerFreezesOutputs_steps :
    ∃ s t u v : State, s.tmr.ctrl.run = false ∧ exec .dmaByte s = .next t ∧ exec .tick s = .next u ∧
      exec (.hostCmd 0x03000003#32 0#32) s = .next v ∧ Instr.dmaByte.space ≠ .phase ∧ Instr.tick.space ≠ .phase ∧
      commandOf .dmaByte = none ∧ commandOf .tick = none ∧ commandOf (.hostCmd 0x03000003#32 0#32) = some (.rdreg 3#8) :=
  ⟨after (exec .extHalt drawing), _, _, _, by decide, rfl, rfl, rfl, by decide⟩
theorem witness_HostWriteStoresOneByte :
    Memory.wf drawing.mem ∧ (0xFFFFFFFF#32 : Word).toNat < 2 ^ drawing.params.addrWidth.val := by decide
/-- A machine with 8-bit addresses, where address 256 names no byte. -/
theorem witness_AddressOutsideSpaceStops :
    ∃ s : State, s.dma.active = true ∧ s.ctl.fault.faulted = false ∧ 2 ^ s.params.addrWidth.val ≤ s.dma.src.toNat ∧
      2 ^ s.params.addrWidth.val ≤ (256#32 : Word).toNat :=
  ⟨{ drawing with params := { Params.default with addrWidth := 8 }, dma := ⟨256#32, 1#14, true⟩ }, by decide⟩
theorem witness_OnlyHostWritesMemory : ∃ t, exec (.hostWrite 2#32 1#8) drawing = .next t ∧ t.mem ≠ drawing.mem :=
  ⟨_, rfl, by decide⟩
theorem witness_EventCodes : commandWords 0x01000002#32 = 2 ∧ commandWords 0xFF123456#32 = 1 := by decide

/-- Every writer of LINE at work: the transition, its tick, a CONFIGURE where INIT_LINE is 4, and a TEARDOWN by its word. -/
theorem witness_OnlySync1StartAdvancesLine :
    ∃ s t u v w, exec .sync1Start sessionA = .next t ∧ t.seq.line ≠ sessionA.seq.line ∧ exec .tick (due 0#3 7) = .next u ∧
      u.seq.line ≠ (due 0#3 7).seq.line ∧ exec (.configure 3#8 4#8 false 128#16 96#16) s = .next v ∧
      v.seq.line ≠ s.seq.line ∧ exec (.hostCmd 0x02000000#32 0#32) (atLine 2#3 160) = .next w ∧
      w.seq.line ≠ (atLine 2#3 160).seq.line :=
  ⟨{ ready 0#32 1000000#32 with params := { Params.default with initLine := 4 } }, _, _, _, _, rfl, by decide, rfl, by decide,
    rfl, by decide, rfl, by decide⟩
theorem witness_SessionConfigurationIsImmutable :
    ∃ t, exec .vidBackporch drawing = .next t ∧ drawing.ctl.active = true ∧ t.ctl.active = true :=
  ⟨_, rfl, by decide, by decide⟩
theorem witness_TraceIsAppended : ∃ t, exec .tick (due 4#3 312) = .next t ∧ t.trace ≠ (due 4#3 312).trace :=
  ⟨_, rfl, by decide⟩
theorem witness_NowDecidesNothing : ∃ t, exec .tick (due 2#3 160) = .next t := ⟨_, rfl⟩
theorem witness_MemoryDecidesNoTransition : Instr.vidStart ≠ .dmaByte ∧ ∃ t, exec .vidStart drawing = .next t :=
  ⟨by decide, _, rfl⟩
theorem witness_FaultIsSticky : faulted.ctl.fault.faulted = true ∧ ∃ t, exec .tick faulted = .next t := ⟨by decide, _, rfl⟩
theorem witness_ResetState : (0x1A#8).toNat ≤ 0x1A := by decide

theorem witness_StepKeepsInvariant : Inv drawing ∧ ∃ t, step drawing = .next t := ⟨drawing_inv, _, rfl⟩

/-- A step from a reachable state ends in one, since `after` is the reset state where the step stops. -/
theorem reachable_after {s : State} (h : Reachable s) : Reachable (after (step s)) := by
  cases e : step s with
  | next t => exact h.step e
  | fault f => exact .start State.reset (by decide) (by decide)
  | refused r => exact .start State.reset (by decide) (by decide)

/-- Steps one after another. -/
def stepsFrom : Nat → State → State
  | 0, s => s
  | n + 1, s => stepsFrom n (after (step s))

theorem reachable_stepsFrom : ∀ (n : Nat) {s : State}, Reachable s → Reachable (stepsFrom n s)
  | 0, _, h => h
  | n + 1, _, h => reachable_stepsFrom n (reachable_after h)

/-- From reset with INIT_LINE 4 and the shortest line, T = 13: a CONFIGURE, and the 15 ticks to line 5's VID_START. -/
def firstRow : State :=
  stepsFrom 16 { powerOn { State.reset with params := { Params.default with initLine := 4 } } with
    script := [⟨[4#32, 0x01030400#32, 0x00800060#32], ⟨some 0x1000#32, some 203125#32⟩⟩], answers := ⟨none, none⟩ }

theorem firstRow_reachable : Reachable firstRow :=
  reachable_stepsFrom 16 (.schedule _ _ (.start _ (by decide) (by decide)))

/-- A reachable state with a transfer in flight: its step completes, and so does the byte step that
ReachableStatesRaiseNoFault and ReadsStayInFramebuffer speak of. -/
theorem witness_ReachableStates :
    Reachable firstRow ∧ firstRow.dma = ⟨0x1000#32, 16#14, true⟩ ∧ (∃ t, exec .dmaByte firstRow = .next t) ∧
      ∃ t, step firstRow = .next t :=
  ⟨firstRow_reachable, by decide, ⟨_, rfl⟩, ⟨_, rfl⟩⟩
/-- A reachable state that stops on an address: 8-bit addresses, and a write to address 256. -/
theorem witness_ReachableStates_stop : ∃ s f, Reachable s ∧ step s = .fault f :=
  ⟨_, _, .schedule [⟨[3#32, 256#32, 1#32], ⟨none, none⟩⟩] ⟨none, none⟩
    (.start { State.reset with params := { Params.default with addrWidth := 8 } } (by decide) (by decide)), rfl⟩

/-- A run that is CONFIGURED, from reset: a WRITE and a TICK, then the CONFIGURE of config A as its first command. -/
def configuredScript : State :=
  { State.reset with script :=
    [⟨[3#32, 0x1000#32, 0xFF#32], ⟨none, none⟩⟩, ⟨[0#32], ⟨none, none⟩⟩,
      ⟨[4#32, 0x01030400#32, 0x00800060#32], ⟨some 0x1000#32, some 1000000#32⟩⟩] }
theorem test_configured_first_command :
    cleanReset configuredScript ∧ configured 3 configuredScript 128#16 96#16 .msbFirst 1000000#32 0x1000#32 := by
  refine ⟨rfl, 2, _, by decide, rfl, ?_, 3#8, 4#8, _, rfl, rfl, rfl, by decide, by decide⟩
  intro k hk u hu word0 word1
  obtain rfl | rfl : k = 0 ∨ k = 1 := by omega
  all_goals cases hu; intro h; cases h
/-- Not CONFIGURED: the CONFIGURE that succeeds comes second, after a refused one. -/
theorem test_configured_second_command :
    ¬ configured 2 { State.reset with script :=
      [⟨[4#32, 0x01030400#32, 0x00800060#32], ⟨none, none⟩⟩,
        ⟨[4#32, 0x01030400#32, 0x00800060#32], ⟨some 0x1000#32, some 1000000#32⟩⟩] }
      128#16 96#16 .msbFirst 1000000#32 0x1000#32 := by
  rintro ⟨k, u, hk, hu, hc, vpin, spin, t, -, ha, -⟩
  obtain rfl | rfl : k = 0 ∨ k = 1 := by omega
  · cases hu
    cases ha
  · exact hc 0 (by decide) _ rfl _ _ rfl

theorem witness_MemoryStaysCanonical : ∃ t, exec (.hostWrite 2#32 1#8) drawing = .next t ∧ Memory.wf drawing.mem :=
  ⟨_, rfl, by decide⟩
theorem witness_StepRunsScheduledEvent :
    ∃ s : State, s.script = [⟨[2#32], ⟨none, none⟩⟩] ∧ decode .evt [2#32] = .ok (.extHalt, []) :=
  ⟨{ sessionA with script := [⟨[2#32], ⟨none, none⟩⟩] }, rfl, by decide⟩
theorem witness_IdleStepIsTick : State.reset.script = [] := by decide
theorem witness_DecodeEncodeAgree :
    (Instr.configure 0xFF#8 0#8 true 65535#16 0#16).wf = true ∧ (Instr.reservedCmd 0xFFFFFFFF#32).wf = true := by decide
theorem witness_DecodedWordsAreTheInstruction :
    decode .cmd [0x010000FE#32, 7#32, 9#32] = .ok (.reservedCmd 0x010000FE#32, [9#32]) ∧
    (∀ word0, Instr.rdreg 0xFF#8 = .reservedCmd word0 → commandWords word0 = 1) := ⟨by decide, fun _ h => by cases h⟩

end Tests
end Sys2Proof
end

/-! PROOF. The configuration of a session (00_scope.md R12): no step changes it while the session goes on. -/

namespace Sys2Proof
namespace Machine

/-- What a CONFIGURE fixes for its session (R12), with the parameters: the geometry and durations (R35, R36), the framebuffer
reference (R37), the bit order (R47), the two pin identifiers (R43) and the video pin's level (R41). -/
def configuration (s : State) : Geometry × FrameBuffer × BitOrder × BitVec 8 × BitVec 8 × Bool × Params :=
  (s.geom, s.fb, s.ctl.bitOrder, s.pins.vpin, s.pins.spin, s.pins.videoLevel, s.params)

theorem configuration_eq_iff (s t : State) :
    configuration t = configuration s ↔
      t.geom = s.geom ∧ t.fb = s.fb ∧ t.ctl.bitOrder = s.ctl.bitOrder ∧ t.pins.vpin = s.pins.vpin ∧
        t.pins.spin = s.pins.spin ∧ t.pins.videoLevel = s.pins.videoLevel ∧ t.params = s.params := by
  simp [configuration]

/-- No transition writes the configuration (41_pulse_state_machine.md R163 to R169). -/
theorem transition_keeps_configuration (p : Phase) {s t : State} (h : exec p.toInstr s = .next t) :
    configuration t = configuration s := by
  cases p with
  | sync1End =>
    simp only [Phase.toInstr, exec, execSync1End] at h
    split at h <;> (cases h; simp [configuration])
  | vidStart =>
    cases h
    cases mapped s.params (lineOf s) <;> simp [configuration]
  | sync1Start | vidBackporch | sync2Start | sync2End | reserved low =>
    cases h
    simp [configuration]

/-- A TICK writes the configuration neither by counting nor by its expiry's transition. -/
theorem tick_keeps_configuration {s t : State} (h : execTick s = .next t) : configuration t = configuration s := by
  obtain ⟨-, rfl⟩ | ⟨-, -, rfl⟩ | ⟨-, -, -, rfl⟩ | ⟨-, -, -, htr⟩ := execTick_cases h
  · simp [configuration]
  · simp [configuration]
  · simp [configuration]
  · rw [takeTransition_eq] at htr
    exact (transition_keeps_configuration _ htr).trans (by simp [configuration])

/-- A command taken inside a session leaves it as it is or ends it: a CONFIGURE fails (43_host_commands.md R231), a TEARDOWN
that is not refused leaves no session (R236). -/
theorem command_keeps_configuration (c : Command) {s t : State} (h : performCommand c s = .next t)
    (hs : s.ctl.active = true) (ht : t.ctl.active = true) : configuration t = configuration s := by
  cases c with
  | configure vpin spin bitord w hh =>
    obtain ⟨st, -, rfl⟩ | ⟨base, f, -, idle, -⟩ := execConfigure_cases h
    · simp [configuration]
    · rw [hs] at idle
      cases idle
  | teardown =>
    simp only [performCommand, execTeardown] at h
    split at h
    · cases h
      simp [configuration]
    · cases h
      cases ht
  | rdreg regno =>
    simp only [performCommand, execRdreg] at h
    split at h <;> (cases h; simp [configuration])
  | reservedCmd word0 =>
    cases h
    simp [configuration]

/-- Inside a session no step of any agent writes the configuration. -/
theorem exec_keeps_configuration {i : Instr} {s t : State} (h : exec i s = .next t)
    (hs : s.ctl.active = true) (ht : t.ctl.active = true) : configuration t = configuration s := by
  cases i with
  | sync1Start => exact transition_keeps_configuration .sync1Start h
  | sync1End => exact transition_keeps_configuration .sync1End h
  | vidStart => exact transition_keeps_configuration .vidStart h
  | vidBackporch => exact transition_keeps_configuration .vidBackporch h
  | sync2Start => exact transition_keeps_configuration .sync2Start h
  | sync2End => exact transition_keeps_configuration .sync2End h
  | reservedPhase low => exact transition_keeps_configuration (.reserved low) h
  | configure vpin spin bitord w hh => exact command_keeps_configuration (.configure vpin spin bitord w hh) h hs ht
  | teardown => exact command_keeps_configuration .teardown h hs ht
  | rdreg regno => exact command_keeps_configuration (.rdreg regno) h hs ht
  | reservedCmd word0 => exact command_keeps_configuration (.reservedCmd word0) h hs ht
  | hostCmd word0 word1 => exact command_keeps_configuration (decodeCommand word0 word1) h hs ht
  | tick => exact tick_keeps_configuration h
  | dmaByte =>
    obtain ⟨-, -, -, rfl⟩ := execDmaByte_cases h
    simp [configuration]
  | extHalt =>
    simp only [exec, execExtHalt] at h
    split at h <;> cases h
    simp [configuration]
  | hostWrite addr value =>
    simp only [exec, execHostWrite] at h
    split at h <;> cases h
    simp [configuration]
  | reservedEvt101 | reservedEvt11x low => cases h

/-- Settles O45: each agent's step, taken inside a session, keeps the configuration or ends the session. -/
theorem sessionConfigurationIsImmutable : Obligations.SessionConfigurationIsImmutable := by
  intro i s t h hs ht
  exact (configuration_eq_iff s t).1 (exec_keeps_configuration h hs ht)

end Machine
end Sys2Proof

/-! PROOF. What an instruction can do, said once: one case for each kind of instruction, and one for each ending of a command. -/

namespace Sys2Proof
namespace Machine

/-- What a performed command can do (43_host_commands.md R231 to R238): a CONFIGURE fails or starts a session, a TEARDOWN is
refused or clears the block, and every other command only answers. -/
inductive CommandEffect (s t : State) : Command → Prop
  | failed {vpin spin : BitVec 8} {bitord : Bool} {w h : BitVec 16} (st : Status) (ht : t = failConfigure s st) :
      CommandEffect s t (.configure vpin spin bitord w h)
  | started {vpin spin : BitVec 8} {bitord : Bool} {w h : BitVec 16} (base f : Word)
      (unfaulted : s.ctl.fault.faulted = false) (idle : s.ctl.active = false) (hw : w ≠ 0#16) (hh : h ≠ 0#16)
      (hbase : providedBase s w h = some base) (hrate : rateOk s.params (ticksPerLineOf f) = true)
      (ht : t = startSession s vpin spin bitord w h base (ticksPerLineOf f)) :
      CommandEffect s t (.configure vpin spin bitord w h)
  | refused (ht : t = answer (setStatus s .faulted) .faulted 0#32) : CommandEffect s t .teardown
  | cleared (unfaulted : s.ctl.fault.faulted = false)
      (ht : t = answer (emit (clearRegisters s) (.down s.now)) .ok 0#32) : CommandEffect s t .teardown
  | answered {c : Command} (st : Status) (v : Word) (ht : t = answer s st v) : CommandEffect s t c

theorem performCommand_effect {c : Command} {s t : State} (h : performCommand c s = .next t) : CommandEffect s t c := by
  cases c with
  | configure vpin spin bitord w hh =>
    obtain ⟨st, -, ht⟩ | ⟨base, f, unfaulted, idle, hw, hh, -, hbase, -, hrate, ht⟩ := execConfigure_cases h
    · exact .failed st ht
    · exact .started base f unfaulted idle hw hh hbase hrate ht
  | teardown =>
    simp only [performCommand, execTeardown] at h
    split at h <;> cases h
    · exact .refused rfl
    · rename_i hf
      exact .cleared (by simpa using hf) rfl
  | rdreg regno =>
    simp only [performCommand, execRdreg] at h
    split at h <;> cases h <;> exact .answered _ _ rfl
  | reservedCmd word0 =>
    cases h
    exact .answered _ _ rfl

/-- What an instruction that completes can do: a phase transition, a command however it arrives (R230), or the step of one of
the other agents. The reserved event codes have no case (30_encoding.md R111). -/
inductive Effect (s t : State) : Instr → Prop
  | transition (p : Phase) (h : exec p.toInstr s = .next t) : Effect s t p.toInstr
  | command {i : Instr} (c : Command) (hc : commandOf i = some c) (h : performCommand c s = .next t) : Effect s t i
  | tick (h : execTick s = .next t) : Effect s t .tick
  | byte (h : execDmaByte s = .next t) : Effect s t .dmaByte
  | halt (hr : s.tmr.ctrl.run = true) (ht : t = emit (stopTimer s) (.halt s.now)) : Effect s t .extHalt
  | write (addr : Word) (value : Byte) (ha : addr.toNat < addressSpace s) (ht : t = memWrite s addr value) :
      Effect s t (.hostWrite addr value)

theorem exec_effect {i : Instr} {s t : State} (h : exec i s = .next t) : Effect s t i := by
  cases i with
  | sync1Start => exact .transition .sync1Start h
  | sync1End => exact .transition .sync1End h
  | vidStart => exact .transition .vidStart h
  | vidBackporch => exact .transition .vidBackporch h
  | sync2Start => exact .transition .sync2Start h
  | sync2End => exact .transition .sync2End h
  | reservedPhase low => exact .transition (.reserved low) h
  | configure | teardown | rdreg | reservedCmd | hostCmd => exact .command _ rfl h
  | tick => exact .tick h
  | dmaByte => exact .byte h
  | extHalt =>
    simp only [exec, execExtHalt] at h
    split at h <;> cases h
    exact .halt ‹_› rfl
  | hostWrite addr value =>
    simp only [exec, execHostWrite] at h
    split at h <;> cases h
    rename_i ha
    exact .write addr value (by simpa [inAddressSpace] using ha) rfl
  | reservedEvt101 | reservedEvt11x low => cases h

/-- No tick is left exactly when the count is 0 or 1 (41_pulse_state_machine.md R160). -/
theorem ticksLeft_eq_zero_iff (s : State) : ticksLeft s = 0 ↔ s.tmr.count.toNat ≤ 1 := by
  unfold ticksLeft
  omega

/-- An event is no phase transition and no command (30_encoding.md R100, R111). -/
theorem space_of_decodeEvent {ws rest : List Word} {i : Instr} (h : decodeEvent ws = .ok (i, rest)) : i.space = .evt := by
  unfold decodeEvent at h
  repeat' split at h
  all_goals cases h <;> rfl

theorem space_of_decodeWhole_evt {ws : List Word} {i : Instr} (h : decodeWhole .evt ws = .ok i) : i.space = .evt := by
  unfold decodeWhole at h
  split at h <;> cases h
  exact space_of_decodeEvent ‹_›

end Machine
end Sys2Proof

/-! PROOF. The invariants of 10_state.md R53 and R35 to R39: they hold after reset, and every step keeps them. -/

namespace Sys2Proof
namespace Machine

/-! ### What the invariant says of a state that is not idle, and of one that is -/

theorem Inv.active_of_run {s : State} (h : Inv s) (hr : s.tmr.ctrl.run = true) : s.ctl.active = true := (h.running hr).1

/-- A transfer is in flight in a session alone (R53.3). -/
theorem Inv.active_of_transfer {s : State} (h : Inv s) (hd : s.dma.active = true) : s.ctl.active = true := by
  by_contra hn
  obtain ⟨-, hidle, -⟩ := h.idle (by simpa using hn)
  rw [hd] at hidle
  cases hidle

/-- Outside its own phase the video pin is PLAIN (R53.9). -/
theorem Inv.not_serial {s : State} (h : Inv s) (hp : s.seq.phase ≠ 3#3) : s.pins.videoMode ≠ .serial :=
  fun hm => hp (h.serialPhase hm).1

/-- A block whose registers but FAULT hold their reset values meets the invariant, whatever the host supplies. -/
theorem inv_of_reset_registers {s : State} (hseq : s.seq = .reset) (htmr : s.tmr = .reset) (hpins : s.pins = .reset)
    (hdma : s.dma = .reset) (hactive : s.ctl.active = false) (hstatus : s.ctl.status = 0#8)
    (hfault : s.ctl.fault.faulted = false) (hmem : Memory.wf s.mem ∧ ∀ c ∈ s.mem, c.1 < addressSpace s) : Inv s := by
  constructor
  case memory => exact hmem
  all_goals
    simp [hseq, htmr, hpins, hdma, hactive, hstatus, hfault, lineOf, Sequencer.reset, Timer.reset, Pins.reset,
      Transfer.reset]

/-- Settles O51: the reset state, its memory empty. -/
theorem resetMeetsInvariant : Obligations.ResetMeetsInvariant :=
  inv_of_reset_registers rfl rfl rfl rfl rfl rfl rfl (by decide)

/-! ### The steps that write one group of registers -/

theorem Inv.answer {s : State} (h : Inv s) (st : Status) (v : Word) : Inv (answer s st v) := { h with }

theorem Inv.countTick {s : State} (h : Inv s) : Inv (countTick s) := { h with }

/-- The invariant does not speak of the script and the collaborators' answers. -/
theorem Inv.schedule {s : State} (h : Inv s) (script : List ScheduledStep) (answers : HostAnswers) :
    Inv { s with script := script, answers := answers } := { h with }

theorem Status.code_le (st : Status) : st.code.toNat ≤ 7 := by
  cases st <;> decide

theorem Inv.setStatus {s : State} (h : Inv s) (st : Status) : Inv (setStatus s st) :=
  { h with statusLegal := Status.code_le st }

theorem Inv.failConfigure {s : State} (h : Inv s) (st : Status) : Inv (failConfigure s st) :=
  { h.setStatus st with }

/-- The count may be any number of ticks from 1 to the period (R39). -/
theorem Inv.setCount {s : State} (h : Inv s) {c : Word} (h1 : 1 ≤ c.toNat) (hc : c.toNat ≤ s.tmr.period.toNat) :
    Inv (setCount s c) :=
  { h with timer := fun _ => ⟨h1, hc⟩ }

theorem Inv.halt {s : State} (h : Inv s) (hr : s.tmr.ctrl.run = true) (e : TraceEvent) : Inv (emit (stopTimer s) e) :=
  { h with
    idle := fun ha => by
      have hactive : s.ctl.active = false := ha
      rw [h.active_of_run hr] at hactive
      cases hactive
    running := fun hrun => by cases hrun
    timer := fun hrun => by cases hrun }

theorem Inv.memWrite {s : State} (h : Inv s) {addr : Word} (ha : addr.toNat < addressSpace s) (value : Byte) :
    Inv (memWrite s addr value) :=
  { h with
    memory := by
      obtain ⟨hwf, hin⟩ := h.memory
      refine ⟨Memory.write_wf hwf _ _, fun c hc => ?_⟩
      obtain rfl | hc := Memory.mem_write hc
      · exact ha
      · exact hin c hc }

theorem Inv.clearRegisters {s : State} (h : Inv s) : Inv (clearRegisters s) :=
  inv_of_reset_registers rfl rfl rfl rfl rfl rfl h.noFault h.memory

/-! ### A byte of the transfer engine -/

theorem shiftOut_frame (s : State) (b : Byte) : ∃ tr g, shiftOut s b = { s with trace := tr, gap := g } := by
  unfold shiftOut
  split <;> exact ⟨_, _, rfl⟩

theorem countDmaByte_frame (s : State) : ∃ x d, countDmaByte s = { s with dma := x, draws := d } := by
  unfold countDmaByte
  split <;> exact ⟨_, _, rfl⟩

/-- A byte step writes the transfer registers and the trace alone (42_scanline_transfer.md R211). -/
theorem execDmaByte_frame {s t : State} (h : execDmaByte s = .next t) :
    t = { s with dma := t.dma, trace := t.trace, draws := t.draws, gap := t.gap } := by
  obtain ⟨-, -, -, rfl⟩ := execDmaByte_cases h
  obtain ⟨tr, g, hshift⟩ := shiftOut_frame s (memRead s s.dma.src)
  rw [hshift]
  obtain ⟨a, d, hsrc⟩ := setDmaSrc_frame { s with trace := tr, gap := g } (s.dma.src.toNat + 1)
  rw [hsrc]
  obtain ⟨x, d', hcount⟩ := countDmaByte_frame { s with trace := tr, gap := g, dma := { s.dma with src := a }, draws := d }
  rw [hcount]

/-- The transfer registers after a byte of a transfer that has bytes left (R205). -/
theorem execDmaByte_dma {s t : State} (h : execDmaByte s = .next t) (hlen : s.dma.len ≠ 0#14) :
    t.dma.len = s.dma.len - 1#14 ∧ t.dma.active = (s.dma.len != 1#14) ∧
      (s.dma.src.toNat + 1 < addressSpace s → t.dma.src = BitVec.ofNat 32 (s.dma.src.toNat + 1)) := by
  obtain ⟨hd, -, -, rfl⟩ := execDmaByte_cases h
  by_cases hfit : s.dma.src.toNat + 1 < addressSpace s <;>
    simp [addressSpace_congr (shiftOut_params s _), hfit, hlen, hd]

theorem Inv.byte {s t : State} (h : Inv s) (hx : execDmaByte s = .next t) : Inv t := by
  obtain ⟨hd, -, -, -⟩ := execDmaByte_cases hx
  have hsession := h.active_of_transfer hd
  obtain ⟨h1, hrow, hbase, hend⟩ := h.transfer hd
  obtain ⟨-, hspace⟩ := h.framebuffer hsession
  obtain ⟨hlen, hactive, hsrc⟩ := execDmaByte_dma hx (by rintro h0; simp [h0] at h1)
  rw [execDmaByte_frame hx]
  exact { h with
    idle := fun ha => by
      rw [show s.ctl.active = false from ha] at hsession
      cases hsession
    transfer := fun ha => by
      replace ha : t.dma.active = true := ha
      show 1 ≤ t.dma.len.toNat ∧ t.dma.len.toNat ≤ s.geom.bytesPerRow.toNat ∧ s.fb.base.toNat ≤ t.dma.src.toNat ∧
        t.dma.src.toNat + t.dma.len.toNat ≤ s.fb.base.toNat + s.fb.size.toNat
      have hne : s.dma.len ≠ 1#14 := by simpa [hactive] using ha
      have := addressSpace_le s
      rw [hlen, hsrc (by bv_omega)]
      bv_omega
    noTransfer := fun ha => by
      replace ha : t.dma.active = false := ha
      show t.dma.len = 0#14
      have heq : s.dma.len = 1#14 := by simpa [hactive] using ha
      rw [hlen, heq]
      rfl }

/-! ### A transition of the sequencer -/

/-- What a transition writes: PHASE and LINE, the pins, the timer's period and count, the transfer registers. -/
theorem takeTransition_frame {s t : State} (h : takeTransition s = .next t) (hp : s.seq.phase.toNat ≤ 5) :
    t.geom = s.geom ∧ t.fb = s.fb ∧ t.ctl = s.ctl ∧ t.mem = s.mem ∧ t.params = s.params ∧
      t.tmr.ctrl = s.tmr.ctrl ∧ t.tmr.count = t.tmr.period := by
  obtain ⟨-, rfl⟩ | ⟨-, -, rfl⟩ | ⟨-, -, rfl⟩ | ⟨-, -, rfl⟩ | ⟨-, -, rfl⟩ | ⟨-, rfl⟩ | ⟨-, rfl⟩ | ⟨-, rfl⟩ :=
    takeTransition_cases h hp
  all_goals simp

theorem one_le_toNat_ite {c : Prop} [Decidable c] {a b : Word} (ha : 1 ≤ a.toNat) (hb : 1 ≤ b.toNat) :
    1 ≤ (if c then a else b).toNat := by
  split
  · exact ha
  · exact hb

/-- In a session every transition programs at least one tick (R36). -/
theorem Inv.takeTransition_period_pos {s t : State} (h : Inv s) (hs : s.ctl.active = true)
    (hx : takeTransition s = .next t) : 1 ≤ t.tmr.period.toNat := by
  obtain ⟨-, hShortOn, hShortOff, hLongOn, hLongOff, hFrontPorch, hBackPorch, hActive, -⟩ := h.durations hs
  obtain ⟨-, rfl⟩ | ⟨-, -, rfl⟩ | ⟨-, -, rfl⟩ | ⟨-, -, rfl⟩ | ⟨-, -, rfl⟩ | ⟨-, rfl⟩ | ⟨-, rfl⟩ | ⟨-, rfl⟩ :=
    takeTransition_cases hx h.phaseLegal
  · exact one_le_toNat_ite hShortOn hLongOn
  · exact hFrontPorch
  · exact one_le_toNat_ite hLongOff hShortOff
  · exact hActive
  · exact hActive
  · exact hBackPorch
  · exact one_le_toNat_ite hLongOn hShortOn
  · exact one_le_toNat_ite hLongOff hShortOff

/-- The rules of R53 that tie PHASE to LINE and to the video pin's mode. -/
structure SequencerInv (s : State) : Prop where
  phaseLegal : s.seq.phase.toNat ≤ 5
  lineLegal : lineOf s ≤ 624
  visiblePhase : s.seq.phase = 2#3 ∨ s.seq.phase = 3#3 → vis (lineOf s) = true
  blankPhase : s.seq.phase = 4#3 ∨ s.seq.phase = 5#3 → vis (lineOf s) = false
  serialPhase : s.pins.videoMode = .serial → s.seq.phase = 3#3 ∧ mapped s.params (lineOf s) = true

/-- Whether a phase may stand on a line, by the line's visibility (R53.1, R53.7, R53.8). -/
def phaseFits (visible : Bool) : Phase → Prop
  | .sync1Start | .sync1End => True
  | .vidStart | .vidBackporch => visible = true
  | .sync2Start | .sync2End => visible = false
  | .reserved _ => False

theorem sequencerInv_of_phase {s : State} (p : Phase) (hp : s.seq.phase = p.code) (hline : lineOf s ≤ 624)
    (hfits : phaseFits (vis (lineOf s)) p)
    (hserial : s.pins.videoMode = .serial → s.seq.phase = 3#3 ∧ mapped s.params (lineOf s) = true) : SequencerInv s := by
  constructor
  case lineLegal => exact hline
  case serialPhase => exact hserial
  all_goals cases p <;> simp_all [phaseFits, Phase.code]

/-- Each transition goes to a phase that fits its line, and only VID_START of a mapped line leaves the pin in SERIAL mode. -/
theorem Inv.takeTransition_sequencer {s t : State} (h : Inv s) (hx : takeTransition s = .next t) : SequencerInv t := by
  have hline := h.lineLegal
  have blank {c : BitVec 3} (hp : s.seq.phase = c) (hc : c ≠ 3#3) {P : Prop} (hm : s.pins.videoMode = .serial) : P :=
    absurd hm (h.not_serial (by rwa [hp]))
  obtain ⟨hp, rfl⟩ | ⟨hp, hv, rfl⟩ | ⟨hp, hv, rfl⟩ | ⟨hp, hm, rfl⟩ | ⟨hp, hm, rfl⟩ | ⟨hp, rfl⟩ | ⟨hp, rfl⟩ | ⟨hp, rfl⟩ :=
    takeTransition_cases hx h.phaseLegal
  · refine sequencerInv_of_phase .sync1End rfl ?_ trivial (blank hp (by decide))
    exact (toNat_ofNat_nextLine _).trans_le (nextLine_le _)
  · exact sequencerInv_of_phase .vidStart rfl hline hv (blank hp (by decide))
  · exact sequencerInv_of_phase .sync2Start rfl hline hv (blank hp (by decide))
  · exact sequencerInv_of_phase .vidBackporch (by simp) (by simpa [lineOf] using hline)
      (by simpa [lineOf, phaseFits] using vis_of_mapped hm) (fun _ => ⟨by simp [Phase.code], by simpa [lineOf] using hm⟩)
  · exact sequencerInv_of_phase .vidBackporch rfl hline (h.visiblePhase (.inl hp)) (blank hp (by decide))
  · exact sequencerInv_of_phase .sync1Start (by simp) (by simpa [lineOf] using hline) trivial (by simp)
  · exact sequencerInv_of_phase .sync2End rfl hline (h.blankPhase (.inl hp)) (blank hp (by decide))
  · exact sequencerInv_of_phase .sync1Start rfl hline trivial (blank hp (by decide))

/-- The transfer registers, R53.5 and R53.6. -/
structure TransferInv (s : State) : Prop where
  transfer : s.dma.active = true →
    1 ≤ s.dma.len.toNat ∧ s.dma.len.toNat ≤ s.geom.bytesPerRow.toNat ∧ s.fb.base.toNat ≤ s.dma.src.toNat ∧
      s.dma.src.toNat + s.dma.len.toNat ≤ s.fb.base.toNat + s.fb.size.toNat
  noTransfer : s.dma.active = false → s.dma.len = 0#14

/-- The transfer armed on a mapped line is its row, inside the framebuffer (40_line_field_sequencer.md R148). -/
theorem Inv.armTransfer {s : State} (h : Inv s) (hs : s.ctl.active = true) (hm : mapped s.params (lineOf s) = true) :
    TransferInv (armTransfer s) := by
  obtain ⟨-, hwidth, hbpr, hheight⟩ := h.geometry hs
  obtain ⟨hsize, hspace⟩ := h.framebuffer hs
  have hend := rowAddr_end (base := s.fb.base.toNat) (bpr := s.geom.bytesPerRow.toNat) hm hheight
  have hbound := addressSpace_le s
  have hdma := armTransfer_dma (s := s) (by omega)
  have hsrc : (Machine.armTransfer s).dma.src.toNat =
      rowAddr s.params (lineOf s) s.geom.height.toNat s.fb.base.toNat s.geom.bytesPerRow.toNat := by
    rw [hdma]
    exact Nat.mod_eq_of_lt (by omega)
  constructor
  · intro _
    rw [hsrc, armTransfer_geom, armTransfer_fb, hdma]
    dsimp only
    have hstart : s.fb.base.toNat ≤ rowAddr s.params (lineOf s) s.geom.height.toNat s.fb.base.toNat
      s.geom.bytesPerRow.toNat := Nat.le_add_right _ _
    omega
  · intro hidle
    rw [hdma] at hidle
    cases hidle

/-- Switching the video pin has no say in what is armed. -/
theorem armTransfer_switchVideo_dma (s : State) (m : VideoMode) :
    (armTransfer (switchVideo s m)).dma = (armTransfer s).dma := by
  unfold switchVideo
  split
  · rfl
  · simp only [armTransfer, emit_dma, setDmaSrc_dma]
    rfl

theorem TransferInv.congr {s t : State} (h : TransferInv s) (hdma : t.dma = s.dma) (hgeom : t.geom = s.geom)
    (hfb : t.fb = s.fb) : TransferInv t := by
  constructor <;> rw [hdma]
  · rw [hgeom, hfb]
    exact h.transfer
  · exact h.noTransfer

theorem Inv.takeTransition_transfer {s t : State} (h : Inv s) (hs : s.ctl.active = true)
    (hx : takeTransition s = .next t) : TransferInv t := by
  have hkeep : TransferInv s := ⟨h.transfer, h.noTransfer⟩
  obtain ⟨-, rfl⟩ | ⟨-, -, rfl⟩ | ⟨-, -, rfl⟩ | ⟨-, hm, rfl⟩ | ⟨-, -, rfl⟩ | ⟨-, rfl⟩ | ⟨-, rfl⟩ | ⟨-, rfl⟩ :=
    takeTransition_cases hx h.phaseLegal
  case inr.inr.inr.inl =>
    exact (h.armTransfer hs hm).congr (armTransfer_switchVideo_dma s .serial) (by simp) (by simp)
  all_goals exact hkeep.congr (by simp) (by simp) (by simp)

/-- An expiry in a session keeps the invariant. -/
theorem Inv.takeTransition {s t : State} (h : Inv s) (hr : s.tmr.ctrl.run = true)
    (hx : takeTransition s = .next t) : Inv t := by
  have hs := h.active_of_run hr
  obtain ⟨hgeom, hfb, hctl, hmem, hparams, hctrl, hcount⟩ := takeTransition_frame hx h.phaseLegal
  have hspace := addressSpace_congr hparams
  have hpos := h.takeTransition_period_pos hs hx
  have hseq := h.takeTransition_sequencer hx
  have hdma := h.takeTransition_transfer hs hx
  exact {
    phaseLegal := hseq.phaseLegal
    lineLegal := hseq.lineLegal
    idle := fun ha => by rw [hctl, hs] at ha; cases ha
    running := by rw [hctrl, hctl]; exact h.running
    transfer := hdma.transfer
    noTransfer := hdma.noTransfer
    visiblePhase := hseq.visiblePhase
    blankPhase := hseq.blankPhase
    serialPhase := hseq.serialPhase
    geometry := by rw [hctl, hgeom]; exact h.geometry
    durations := by rw [hctl, hgeom]; exact h.durations
    framebuffer := by rw [hctl, hfb, hgeom, hspace]; exact h.framebuffer
    timer := fun _ => by rw [hcount]; exact ⟨hpos, le_rfl⟩
    noFault := by rw [hctl]; exact h.noFault
    statusLegal := by rw [hctl]; exact h.statusLegal
    memory := by rw [hmem, hspace]; exact h.memory }

/-- A TICK counts one tick of the period, or takes the transition of its end (R160); the masked expiry of R171 is not reached,
since a running timer has its interrupt enabled (R53.4). -/
theorem Inv.tick {s t : State} (h : Inv s) (hx : execTick s = .next t) : Inv t := by
  obtain ⟨-, rfl⟩ | ⟨hr, hleft, rfl⟩ | ⟨hr, -, hmasked, -⟩ | ⟨hr, -, -, htr⟩ := execTick_cases hx
  · exact h.countTick
  · obtain ⟨-, hle⟩ := h.timer hr
    have hcount : (BitVec.ofNat 32 (ticksLeft s)).toNat = s.tmr.count.toNat - 1 := by
      unfold ticksLeft at hleft ⊢
      rw [BitVec.toNat_ofNat]
      omega
    have hne := (ticksLeft_eq_zero_iff s).not.1 hleft
    refine h.countTick.setCount ?_ ?_ <;> rw [hcount]
    · omega
    · exact (Nat.sub_le _ _).trans hle
  · rw [(h.running hr).2] at hmasked
    cases hmasked
  · exact h.countTick.takeTransition hr htr

/-! ### A session that starts -/

theorem bytesPerRowOf_le (w : BitVec 16) : bytesPerRowOf w ≤ 8192 := by
  unfold bytesPerRowOf pixelsPerByte
  omega

theorem bytesPerRowOf_pos {w : BitVec 16} (h : w ≠ 0#16) : 1 ≤ bytesPerRowOf w := by
  have : w.toNat ≠ 0 := fun h0 => h (BitVec.eq_of_toNat_eq h0)
  unfold bytesPerRowOf pixelsPerByte
  omega

/-- The largest buffer fits FB_SIZE (10_state.md R37). -/
theorem bufferBytes_lt (w h : BitVec 16) : bufferBytes w h < 2 ^ 29 :=
  calc bytesPerRowOf w * h.toNat ≤ 8192 * 65535 := Nat.mul_le_mul (bytesPerRowOf_le w) (by omega)
    _ < 2 ^ 29 := by decide

theorem ticksPerLineOf_lt (f : Word) : ticksPerLineOf f < 2 ^ 32 :=
  (Nat.div_le_self _ _).trans_lt f.isLt

theorem durationOf_le (t : Nat) (k : Fin 65) : durationOf t k ≤ t :=
  Nat.div_le_of_le_mul (by
    rw [Nat.mul_comm]
    exact Nat.mul_le_mul_right t (Nat.le_of_lt_succ k.isLt))

/-- A duration fits its register. -/
theorem toNat_ofNat_durationOf {t : Nat} (ht : t < 2 ^ 32) (k : Fin 65) :
    (BitVec.ofNat 32 (durationOf t k)).toNat = durationOf t k :=
  Nat.mod_eq_of_lt ((durationOf_le t k).trans_lt ht)

/-- What the rate check asks (43_host_commands.md R234). -/
theorem rateOk_iff (p : Params) (t : Nat) :
    rateOk p t = true ↔ t ≠ 0 ∧ durationOf t p.kShortOn ≠ 0 ∧ durationOf t p.kShortOff ≠ 0 ∧ durationOf t p.kLongOn ≠ 0 ∧
      durationOf t p.kLongOff ≠ 0 ∧ durationOf t p.kFrontPorch ≠ 0 ∧ durationOf t p.kBackPorch ≠ 0 ∧ porchTicks p t < t := by
  simp [rateOk, and_assoc]

theorem providedBase_fits {s : State} {w h : BitVec 16} {base : Word} (hb : providedBase s w h = some base) :
    base.toNat + bufferBytes w h ≤ addressSpace s := by
  unfold providedBase at hb
  split at hb
  · cases hb
  · split at hb <;> cases hb
    assumption

/-- The seven durations of a new session are at least one tick, and the four of a visible line fill it (R36). -/
theorem sessionGeometry_durations {p : Params} {w h : BitVec 16} {t : Nat} (ht : t < 2 ^ 32) (hrate : rateOk p t = true) :
    1 ≤ (sessionGeometry p w h t).ticksPerLine.toNat ∧ 1 ≤ (sessionGeometry p w h t).dShortOn.toNat ∧
      1 ≤ (sessionGeometry p w h t).dShortOff.toNat ∧ 1 ≤ (sessionGeometry p w h t).dLongOn.toNat ∧
      1 ≤ (sessionGeometry p w h t).dLongOff.toNat ∧ 1 ≤ (sessionGeometry p w h t).dFrontPorch.toNat ∧
      1 ≤ (sessionGeometry p w h t).dBackPorch.toNat ∧ 1 ≤ (sessionGeometry p w h t).dActive.toNat ∧
      (sessionGeometry p w h t).dShortOn.toNat + (sessionGeometry p w h t).dFrontPorch.toNat +
        (sessionGeometry p w h t).dActive.toNat + (sessionGeometry p w h t).dBackPorch.toNat =
        (sessionGeometry p w h t).ticksPerLine.toNat := by
  obtain ⟨h0, hShortOn, hShortOff, hLongOn, hLongOff, hFrontPorch, hBackPorch, hporch⟩ := (rateOk_iff p t).1 hrate
  have hline : (BitVec.ofNat 32 t).toNat = t := Nat.mod_eq_of_lt ht
  have hactive : (BitVec.ofNat 32 (t - porchTicks p t)).toNat = t - porchTicks p t :=
    Nat.mod_eq_of_lt ((Nat.sub_le _ _).trans_lt ht)
  simp only [sessionGeometry, toNat_ofNat_durationOf ht, hline, hactive]
  unfold porchTicks at hporch ⊢
  omega

/-- The width of a new session is a whole number of bytes (R35). -/
theorem sessionGeometry_wholeBytes (p : Params) {w h : BitVec 16} (t : Nat) (hw : w ≠ 0#16) (hh : h ≠ 0#16) :
    (sessionGeometry p w h t).widthPx.toNat % 8 = 0 ∧ 8 ≤ (sessionGeometry p w h t).widthPx.toNat ∧
      (sessionGeometry p w h t).bytesPerRow.toNat = (sessionGeometry p w h t).widthPx.toNat / 8 ∧
      1 ≤ (sessionGeometry p w h t).height.toNat := by
  have hle := bytesPerRowOf_le w
  have hpos := bytesPerRowOf_pos hw
  have hheight : h.toNat ≠ 0 := fun h0 => hh (BitVec.eq_of_toNat_eq h0)
  simp only [sessionGeometry, widthPxOf, pixelsPerByte, BitVec.toNat_ofNat]
  omega

/-- The framebuffer of a new session has its size and lies in the address space (R37). -/
theorem sessionGeometry_framebuffer {s : State} {w h : BitVec 16} {base : Word} (t : Nat)
    (hbase : providedBase s w h = some base) :
    (BitVec.ofNat 29 (bufferBytes w h)).toNat = (sessionGeometry s.params w h t).bytesPerRow.toNat * h.toNat ∧
      base.toNat + (BitVec.ofNat 29 (bufferBytes w h)).toNat ≤ addressSpace s := by
  have hsize : (BitVec.ofNat 29 (bufferBytes w h)).toNat = bufferBytes w h := Nat.mod_eq_of_lt (bufferBytes_lt w h)
  have hrow : (BitVec.ofNat 14 (bytesPerRowOf w)).toNat = bytesPerRowOf w :=
    Nat.mod_eq_of_lt ((bytesPerRowOf_le w).trans_lt (by decide))
  rw [hsize]
  exact ⟨by rw [sessionGeometry, hrow, bufferBytes], providedBase_fits hbase⟩

theorem Inv.startSession {s : State} (h : Inv s) {vpin spin : BitVec 8} {bitord : Bool} {w hh : BitVec 16} {base f : Word}
    (hw : w ≠ 0#16) (hheight : hh ≠ 0#16) (hbase : providedBase s w hh = some base)
    (hrate : rateOk s.params (ticksPerLineOf f) = true) :
    Inv (startSession s vpin spin bitord w hh base (ticksPerLineOf f)) := by
  have hdurations := sessionGeometry_durations (w := w) (h := hh) (ticksPerLineOf_lt f) hrate
  have hline : (BitVec.ofNat 10 s.params.initLine.val).toNat ≤ 624 := by
    have := s.params.initLine.isLt
    rw [BitVec.toNat_ofNat]
    omega
  exact {
    phaseLegal := Nat.zero_le 5
    lineLegal := hline
    idle := fun ha => by cases ha
    running := fun _ => ⟨rfl, rfl⟩
    transfer := fun ha => by cases ha
    noTransfer := fun _ => rfl
    visiblePhase := by rintro (hp | hp) <;> cases hp
    blankPhase := by rintro (hp | hp) <;> cases hp
    serialPhase := fun hm => by cases hm
    geometry := fun _ => sessionGeometry_wholeBytes s.params _ hw hheight
    durations := fun _ => hdurations
    framebuffer := fun _ => sessionGeometry_framebuffer _ hbase
    timer := fun _ => ⟨hdurations.1, le_rfl⟩
    noFault := h.noFault
    statusLegal := Nat.zero_le 7
    memory := h.memory }

/-! ### Every step -/

theorem Inv.performCommand {c : Command} {s t : State} (h : Inv s) (hx : performCommand c s = .next t) : Inv t := by
  cases performCommand_effect hx with
  | failed st ht => exact ht ▸ h.failConfigure st
  | started base f _ _ hw hh hbase hrate ht => exact ht ▸ h.startSession hw hh hbase hrate
  | refused ht => exact ht ▸ (h.setStatus .faulted).answer .faulted 0#32
  | cleared _ ht => exact ht ▸ { h.clearRegisters with }
  | answered st v ht => exact ht ▸ h.answer st v

/-- The step of an agent keeps the invariant. A phase transition that no expiry takes is no agent's step (R111). -/
theorem Inv.exec {i : Instr} {s t : State} (h : Inv s) (hi : i.space ≠ .phase) (hx : exec i s = .next t) : Inv t := by
  cases exec_effect hx with
  | transition p _ => exact absurd (by cases p <;> rfl) hi
  | command c _ hc => exact h.performCommand hc
  | tick htick => exact h.tick htick
  | byte hbyte => exact h.byte hbyte
  | halt hr ht => exact ht ▸ h.halt hr _
  | write addr value ha ht => exact ht ▸ h.memWrite ha value

/-- Settles O52: the next event, a TICK where nothing is scheduled, keeps the invariant. -/
theorem stepKeepsInvariant : Obligations.StepKeepsInvariant := by
  intro s t h hstep
  obtain ⟨-, hx⟩ | ⟨p, rest, i, -, hdecode, hx⟩ := step_cases hstep
  · exact h.exec (by decide) hx
  · exact (h.schedule rest p.answers).exec (by rw [space_of_decodeWhole_evt hdecode]; decide) hx

end Machine
end Sys2Proof

/-! PROOF. PHASE and LINE: the successor of each phase (10_state.md R33), and which steps write LINE (R34). -/

namespace Sys2Proof
namespace Machine

/-- Settles O15: the transition PHASE selects completes, and each one programs its successor. -/
theorem phaseSuccessor : Obligations.PhaseSuccessor := by
  intro s hp
  obtain ⟨t, ht⟩ := takeTransition_next s
  refine ⟨t, takeTransition_eq s ▸ ht, ?_⟩
  obtain ⟨e, rfl⟩ | ⟨e, hv, rfl⟩ | ⟨e, hv, rfl⟩ | ⟨e, -, rfl⟩ | ⟨e, -, rfl⟩ | ⟨e, rfl⟩ | ⟨e, rfl⟩ | ⟨e, rfl⟩ :=
    takeTransition_cases ht hp
  case inr.inl | inr.inr.inl => simp [e, show vis s.seq.line.toNat = _ from hv, Phase.code]
  all_goals simp [e, Phase.code]

/-- No transition but SYNC1_START writes LINE. -/
theorem transition_keeps_line {p : Phase} {s t : State} (h : exec p.toInstr s = .next t) (hp : p ≠ .sync1Start) :
    t.seq.line = s.seq.line := by
  cases p with
  | sync1Start => exact absurd rfl hp
  | sync1End =>
    simp only [Phase.toInstr, exec, execSync1End] at h
    split at h <;> cases h <;> rfl
  | vidStart =>
    cases h
    cases mapped s.params (lineOf s) <;> simp
  | vidBackporch | sync2Start | sync2End | reserved low =>
    cases h
    simp

theorem ofCode_eq_sync1Start_iff (c : BitVec 3) : Phase.ofCode c = .sync1Start ↔ c = 0#3 := by
  revert c
  decide

/-- A TICK writes LINE only as an expiry that takes SYNC1_START (R160, R161). -/
theorem line_changed_by_tick {s t : State} (h : execTick s = .next t) (hline : t.seq.line ≠ s.seq.line) :
    s.seq.phase = 0#3 ∧ s.tmr.ctrl.run = true ∧ s.tmr.count.toNat ≤ 1 ∧ s.tmr.ctrl.irqEn = true := by
  obtain ⟨-, rfl⟩ | ⟨-, -, rfl⟩ | ⟨-, -, -, rfl⟩ | ⟨hr, hleft, hirq, htr⟩ := execTick_cases h
  · exact absurd rfl hline
  · exact absurd rfl hline
  · exact absurd rfl hline
  · rw [takeTransition_eq] at htr
    have hp : Phase.ofCode s.seq.phase = .sync1Start := by
      by_contra hp
      exact hline ((transition_keeps_line htr hp).trans rfl)
    exact ⟨(ofCode_eq_sync1Start_iff _).1 hp, hr, (ticksLeft_eq_zero_iff s).1 hleft, hirq⟩

/-- Settles O44: LINE differs after a step only where the step is one of its writers. -/
theorem onlySync1StartAdvancesLine : Obligations.OnlySync1StartAdvancesLine := by
  intro i s t h hline
  cases exec_effect h with
  | transition p hx =>
    by_cases hp : p = .sync1Start
    · exact .inl (by rw [hp]; rfl)
    · exact absurd (transition_keeps_line hx hp) hline
  | command c hc hx =>
    cases performCommand_effect hx with
    | failed st ht => exact absurd (by rw [ht]; rfl) hline
    | started base f unfaulted idle => exact .inr (.inr (.inl ⟨idle, unfaulted, _, _, _, _, _, hc⟩))
    | refused ht => exact absurd (by rw [ht]; rfl) hline
    | cleared unfaulted => exact .inr (.inr (.inr ⟨unfaulted, hc⟩))
    | answered st v ht => exact absurd (by rw [ht]; rfl) hline
  | tick hx => exact .inr (.inl ⟨rfl, line_changed_by_tick hx hline⟩)
  | byte hx => exact absurd (by rw [execDmaByte_frame hx]) hline
  | halt _ ht => exact absurd (by rw [ht]; rfl) hline
  | write addr value _ ht => exact absurd (by rw [ht]; rfl) hline

end Machine
end Sys2Proof

/-! PROOF. The two pins: their levels between pixels (10_state.md R42), and the video pin during a byte step
(42_scanline_transfer.md R206, R208). -/

namespace Sys2Proof
namespace Machine

/-- What a byte step puts on the trace: the byte shown in SERIAL mode, lost in PLAIN mode (R205, R209). -/
theorem execDmaByte_trace {s t : State} (h : execDmaByte s = .next t) :
    t.trace = s.trace ++ [if s.pins.videoMode = .serial then .pix s.now (memRead s s.dma.src) s.ctl.bitOrder
      else .lost s.now (memRead s s.dma.src)] := by
  obtain ⟨-, -, -, rfl⟩ := execDmaByte_cases h
  simp

theorem execDmaByte_pins {s t : State} (h : execDmaByte s = .next t) : t.pins = s.pins := by
  rw [execDmaByte_frame h]

/-- The levels of the video pin during a byte step: in SERIAL mode the byte's pixels come first (R208). -/
theorem videoPinDuring_byte {s t : State} (h : execDmaByte s = .next t) :
    videoPinDuring s t =
      (if s.pins.videoMode = .serial then pixelsOf s.ctl.bitOrder (memRead s s.dma.src) else []).map (videoPinWith s) ++
        [videoPinWith s (serializerBit t)] := by
  have hwith : videoPinWith t = videoPinWith s := funext (videoPinWith_congr (execDmaByte_pins h))
  rw [videoPinDuring, execDmaByte_trace h, List.drop_left, videoPin, hwith]
  cases s.pins.videoMode <;> simp [picture, shownPixels]

/-- A pixel by the bit order, as R206 writes it. -/
theorem pixel_eq (order : BitOrder) (b : Byte) (k : Nat) :
    pixel order b k = if order = .msbFirst then b.getLsbD (7 - k) else b.getLsbD k := by
  cases order <;> rfl

/-- Settles O28: R42's table for each pin, and the pixels of the byte a byte step reads. -/
theorem pinLevels : Obligations.PinLevels := by
  refine ⟨fun s => ⟨fun hd => ?_, fun hd => ?_, fun hd => videoPinWith_released hd _,
    fun hd hm => videoPinWith_plain hd hm _, fun hd hm => ⟨_, videoPinWith_serial hd hm _⟩⟩,
    fun s t h => ⟨fun hd l hl => ?_, fun hd hm => ?_, fun hd hm => ⟨serializerBit t, ?_⟩⟩⟩
  · simp [syncPin, hd]
  · simp [syncPin, hd]
  · have hz : videoPinWith s = fun _ => .z := funext (videoPinWith_released hd)
    rw [videoPinDuring_byte h, hz, List.mem_append, List.mem_map, List.mem_singleton] at hl
    obtain ⟨_, _, rfl⟩ | rfl := hl
    · rfl
    · rfl
  · rw [videoPinDuring_byte h, hm, videoPinWith_plain hd hm]
    rfl
  · have hdriven : videoPinWith s = .driven := funext (videoPinWith_serial hd hm)
    rw [videoPinDuring_byte h, if_pos hm, hdriven]
    simp [pixelsOf, pixelsPerByte, pixel_eq, memRead]

end Machine
end Sys2Proof

/-! PROOF. NOW and the output trace: a step only appends events of its own tick (10_state.md R60), and neither decides what a
step does (R55). -/

namespace Sys2Proof
namespace Machine

/-! ### What a step appends -/

/-- The tick an event carries (R60). -/
def TraceEvent.time : TraceEvent → Nat
  | .sync u _ | .vmode u _ | .arm u _ _ _ _ | .pix u _ _ | .lost u _ | .cfg u _ | .down u | .halt u | .fault u _ => u

/-- From `s` to `t` no tick passes, and the trace grows by events of this tick. -/
def Emits (s t : State) : Prop :=
  t.now = s.now ∧ ∃ new, t.trace = s.trace ++ new ∧ ∀ e ∈ new, e.time = s.now

theorem Emits.nothing {s t : State} (hnow : t.now = s.now) (htrace : t.trace = s.trace) : Emits s t :=
  ⟨hnow, [], by simpa using htrace, by simp⟩

theorem Emits.event {s t : State} (hnow : t.now = s.now) (e : TraceEvent) (he : e.time = s.now)
    (htrace : t.trace = s.trace ++ [e]) : Emits s t :=
  ⟨hnow, [e], htrace, by simpa using he⟩

theorem Emits.trans {s u t : State} (h : Emits s u) (h' : Emits u t) : Emits s t := by
  obtain ⟨hnow, new, htrace, htime⟩ := h
  obtain ⟨hnow', new', htrace', htime'⟩ := h'
  refine ⟨hnow'.trans hnow, new ++ new', by rw [htrace', htrace, List.append_assoc], fun e he => ?_⟩
  obtain he | he := List.mem_append.1 he
  · exact htime e he
  · exact (htime' e he).trans hnow

theorem emits_switchVideo (s : State) (m : VideoMode) : Emits s (switchVideo s m) := by
  by_cases hm : s.pins.videoMode = m
  · exact .nothing (by simp) (by simp [hm])
  · exact .event (by simp) (.vmode s.now m) rfl (by simp [hm])

theorem emits_armTransfer (s : State) : Emits s (armTransfer s) :=
  .event (by simp) _ rfl (armTransfer_trace s)

theorem emits_programTimer (s : State) (d : Word) (p : Phase) : Emits s (programTimer s d p) := .nothing rfl rfl

theorem transition_emits (p : Phase) {s t : State} (h : exec p.toInstr s = .next t) : Emits s t := by
  cases p with
  | sync1Start | sync2Start | sync2End | reserved low =>
    cases h
    exact .event rfl _ rfl rfl
  | sync1End =>
    simp only [Phase.toInstr, exec, execSync1End] at h
    split at h <;> cases h <;> exact .event rfl _ rfl rfl
  | vidStart =>
    simp only [Phase.toInstr, exec, execVidStart] at h
    split at h <;> cases h
    · exact ((emits_switchVideo s .serial).trans (emits_armTransfer _)).trans (emits_programTimer _ _ _)
    · exact emits_programTimer _ _ _
  | vidBackporch =>
    cases h
    exact (emits_switchVideo s .plain).trans (emits_programTimer _ _ _)

theorem command_emits {c : Command} {s t : State} (h : performCommand c s = .next t) : Emits s t := by
  cases performCommand_effect h with
  | failed st ht => exact ht ▸ .event rfl _ rfl rfl
  | started base f _ _ _ _ _ _ ht => exact ht ▸ .event rfl _ rfl rfl
  | refused ht => exact ht ▸ .nothing rfl rfl
  | cleared _ ht => exact ht ▸ .event rfl _ rfl rfl
  | answered st v ht => exact ht ▸ .nothing rfl rfl

/-- A TICK counts first, and its events carry the new tick (41_pulse_state_machine.md R160). -/
theorem tick_emits {s t : State} (h : execTick s = .next t) : Emits (countTick s) t := by
  obtain ⟨-, rfl⟩ | ⟨-, -, rfl⟩ | ⟨-, -, -, rfl⟩ | ⟨-, -, -, htr⟩ := execTick_cases h
  · exact .nothing rfl rfl
  · exact .nothing rfl rfl
  · exact .nothing rfl rfl
  · exact transition_emits _ (takeTransition_eq (countTick s) ▸ htr)

/-- The event of a byte step, shown or lost, is of its tick. -/
theorem byte_emits {s t : State} (h : execDmaByte s = .next t) : Emits s t := by
  refine .event (by rw [execDmaByte_frame h]) _ ?_ (execDmaByte_trace h)
  split <;> rfl

/-- Every step emits at its own tick, which a TICK alone counts. -/
theorem exec_emits {i : Instr} {s t : State} (h : exec i s = .next t) :
    Emits (if i = .tick then countTick s else s) t := by
  cases exec_effect h with
  | transition p hx =>
    rw [if_neg (by cases p <;> simp [Phase.toInstr])]
    exact transition_emits p hx
  | command c hc hx =>
    rw [if_neg (by rintro rfl; cases hc)]
    exact command_emits hx
  | tick hx => exact tick_emits hx
  | byte hx => exact byte_emits hx
  | halt _ ht => exact ht ▸ .event rfl _ rfl rfl
  | write addr value _ ht => exact ht ▸ .nothing rfl rfl

/-- Settles O46: what a step emits is appended, at the tick the step leaves. -/
theorem traceIsAppended : Obligations.TraceIsAppended := by
  intro i s t h
  obtain ⟨hnow, new, htrace, htime⟩ := exec_emits h
  refine ⟨new, ?_, fun e he => ?_⟩
  · rw [htrace]
    split <;> rfl
  · rw [hnow, ← htime e he]
    cases e <;> rfl

/-! ### What NOW and the trace decide -/

/-- Two states that differ in NOW and the trace alone. -/
def SameButLog (s s' : State) : Prop := ∃ n tr, s' = { s with now := n, trace := tr }

/-- Two outcomes that differ in NOW and the trace of a next state alone. -/
inductive SameOutcome : Host.Outcome State Fault Refusal → Host.Outcome State Fault Refusal → Prop
  | next {t t' : State} (h : SameButLog t t') : SameOutcome (.next t) (.next t')
  | fault (f : Fault) : SameOutcome (.fault f) (.fault f)
  | refused (r : Refusal) : SameOutcome (.refused r) (.refused r)

/-- Where both sides take the same branch, the branches are compared. -/
theorem related_ite {α : Type} {r : α → α → Prop} {c : Prop} [Decidable c] {a b a' b' : α} (ha : r a a') (hb : r b b') :
    r (if c then a else b) (if c then a' else b') := by
  split
  · exact ha
  · exact hb

theorem SameButLog.emit {s s' : State} (h : SameButLog s s') (e e' : TraceEvent) :
    SameButLog (emit s e) (emit s' e') := by
  obtain ⟨n, tr, rfl⟩ := h
  exact ⟨_, _, rfl⟩

theorem SameButLog.programTimer {s s' : State} (h : SameButLog s s') (d : Word) (p : Phase) :
    SameButLog (programTimer s d p) (programTimer s' d p) := by
  obtain ⟨n, tr, rfl⟩ := h
  exact ⟨_, _, rfl⟩

theorem SameButLog.switchVideo {s s' : State} (h : SameButLog s s') (m : VideoMode) :
    SameButLog (switchVideo s m) (switchVideo s' m) := by
  obtain ⟨n, tr, rfl⟩ := h
  exact related_ite ⟨_, _, rfl⟩ ⟨_, _, rfl⟩

theorem SameButLog.setDmaSrc {s s' : State} (h : SameButLog s s') (a : Nat) :
    SameButLog (setDmaSrc s a) (setDmaSrc s' a) := by
  obtain ⟨n, tr, rfl⟩ := h
  exact related_ite ⟨_, _, rfl⟩ ⟨_, _, rfl⟩

theorem SameButLog.armTransfer {s s' : State} (h : SameButLog s s') :
    SameButLog (armTransfer s) (armTransfer s') := by
  obtain ⟨n, tr, rfl⟩ := h
  exact (SameButLog.setDmaSrc ⟨_, _, rfl⟩ _).emit _ _

theorem SameButLog.shiftOut {s s' : State} (h : SameButLog s s') (b : Byte) :
    SameButLog (shiftOut s b) (shiftOut s' b) := by
  obtain ⟨n, tr, rfl⟩ := h
  unfold Machine.shiftOut
  cases s.pins.videoMode <;> exact ⟨_, _, rfl⟩

theorem SameButLog.countDmaByte {s s' : State} (h : SameButLog s s') :
    SameButLog (countDmaByte s) (countDmaByte s') := by
  obtain ⟨n, tr, rfl⟩ := h
  exact related_ite ⟨_, _, rfl⟩ ⟨_, _, rfl⟩

theorem SameButLog.transition {s s' : State} (h : SameButLog s s') (p : Phase) :
    SameOutcome (exec p.toInstr s) (exec p.toInstr s') := by
  obtain ⟨n, tr, rfl⟩ := h
  have hs : SameButLog s { s with now := n, trace := tr } := ⟨n, tr, rfl⟩
  cases p with
  | sync1End => exact related_ite (.next ⟨_, _, rfl⟩) (.next ⟨_, _, rfl⟩)
  | vidStart => exact .next (related_ite (hs.switchVideo .serial).armTransfer hs |>.programTimer _ _)
  | vidBackporch => exact .next ((hs.switchVideo .plain).programTimer _ _)
  | sync1Start | sync2Start | sync2End | reserved low => exact .next ⟨_, _, rfl⟩

theorem SameButLog.performCommand {s s' : State} (h : SameButLog s s') (c : Command) :
    SameOutcome (performCommand c s) (performCommand c s') := by
  obtain ⟨n, tr, rfl⟩ := h
  cases c with
  | configure vpin spin bitord w hh =>
    refine related_ite (.next ⟨_, _, rfl⟩) (related_ite (.next ⟨_, _, rfl⟩) (related_ite (.next ⟨_, _, rfl⟩) ?_))
    rw [show providedBase { s with now := n, trace := tr } w hh = providedBase s w hh from rfl]
    cases providedBase s w hh with
    | none => exact .next ⟨_, _, rfl⟩
    | some base =>
      cases ht : s.answers.timer with
      | none => exact .next ⟨_, _, rfl⟩
      | some f => exact related_ite (.next ⟨_, _, rfl⟩) (.next ⟨_, _, rfl⟩)
  | teardown => exact related_ite (.next ⟨_, _, rfl⟩) (.next ⟨_, _, rfl⟩)
  | rdreg regno =>
    simp only [Machine.performCommand, execRdreg]
    rw [show readRegister { s with now := n, trace := tr } regno = readRegister s regno from rfl]
    cases readRegister s regno <;> exact .next ⟨_, _, rfl⟩
  | reservedCmd word0 => exact .next ⟨_, _, rfl⟩

theorem SameButLog.tick {s s' : State} (h : SameButLog s s') : SameOutcome (execTick s) (execTick s') := by
  obtain ⟨n, tr, rfl⟩ := h
  refine related_ite (related_ite (related_ite ?_ (.next ⟨_, _, rfl⟩)) (.next ⟨_, _, rfl⟩)) (.next ⟨_, _, rfl⟩)
  rw [takeTransition_eq, takeTransition_eq]
  exact SameButLog.transition (s := Machine.countTick s) ⟨_, _, rfl⟩ _

theorem SameButLog.byte {s s' : State} (h : SameButLog s s') : SameOutcome (execDmaByte s) (execDmaByte s') := by
  obtain ⟨n, tr, rfl⟩ := h
  have hs : SameButLog s { s with now := n, trace := tr } := ⟨n, tr, rfl⟩
  exact related_ite (related_ite (.next ((hs.shiftOut _).setDmaSrc _).countDmaByte) (.fault _)) (.refused _)

/-- No step reads NOW or the trace to decide what it does. -/
theorem SameButLog.exec {s s' : State} (h : SameButLog s s') (i : Instr) : SameOutcome (exec i s) (exec i s') := by
  cases i with
  | sync1Start => exact h.transition .sync1Start
  | sync1End => exact h.transition .sync1End
  | vidStart => exact h.transition .vidStart
  | vidBackporch => exact h.transition .vidBackporch
  | sync2Start => exact h.transition .sync2Start
  | sync2End => exact h.transition .sync2End
  | reservedPhase low => exact h.transition (.reserved low)
  | configure vpin spin bitord w hh => exact h.performCommand (.configure vpin spin bitord w hh)
  | teardown => exact h.performCommand .teardown
  | rdreg regno => exact h.performCommand (.rdreg regno)
  | reservedCmd word0 => exact h.performCommand (.reservedCmd word0)
  | hostCmd word0 word1 => exact h.performCommand (decodeCommand word0 word1)
  | tick => exact h.tick
  | dmaByte => exact h.byte
  | extHalt =>
    obtain ⟨n, tr, rfl⟩ := h
    exact related_ite (.next ⟨_, _, rfl⟩) (.refused _)
  | hostWrite addr value =>
    obtain ⟨n, tr, rfl⟩ := h
    exact related_ite (.next ⟨_, _, rfl⟩) (.fault _)
  | reservedEvt101 | reservedEvt11x low => exact .refused _

/-- Settles O47: a TICK alone counts NOW, and from another NOW and trace a step ends in the same registers, memory and answers. -/
theorem nowDecidesNothing : Obligations.NowDecidesNothing := by
  constructor
  · intro i s t h
    obtain ⟨hnow, -⟩ := exec_emits h
    rw [hnow]
    split <;> rfl
  · intro i s t n tr h
    have hsame := SameButLog.exec (s := s) (s' := { s with now := n, trace := tr }) ⟨n, tr, rfl⟩ i
    rw [h] at hsame
    generalize exec i { s with now := n, trace := tr } = o at hsame ⊢
    cases hsame with
    | next hlog =>
      obtain ⟨n', tr', rfl⟩ := hlog
      exact ⟨_, rfl, rfl⟩

end Machine
end Sys2Proof

/-! PROOF. Host memory: the engine reads inside the framebuffer (20_memory.md R77), the host's write alone changes memory (R71)
and keeps its form, memory steers no step (R82), and an address past the address space names no byte (R70). -/

namespace Sys2Proof
namespace Machine

/-! ### What the engine reads -/

/-- Reset meets the invariant over any memory of the address space in its form. -/
theorem powerOn_inv {s : State} (hmem : Memory.wf s.mem ∧ ∀ c ∈ s.mem, c.1 < addressSpace s) : Inv (powerOn s) :=
  inv_of_reset_registers rfl rfl rfl rfl rfl rfl rfl hmem

/-- Every reachable state meets the invariants of 10_state.md R53 and R35 to R39. -/
theorem Reachable.inv {s : State} (h : Reachable s) : Inv s := by
  induction h with
  | start s hwf hin => exact powerOn_inv ⟨hwf, hin⟩
  | step _ hstep ih => exact stepKeepsInvariant _ _ ih hstep
  | schedule script answers _ ih => exact ih.schedule script answers
  | reset _ ih => exact powerOn_inv ih.memory

/-- Settles O54: by the invariant the bytes of a transfer in flight end inside the framebuffer, the next of them is at DMA_SRC,
and the framebuffer of a session lies in the address space. -/
theorem readsStayInFramebuffer : Obligations.ReadsStayInFramebuffer := by
  intro s t hreach h
  have hinv := hreach.inv
  obtain ⟨hd, -, -, -⟩ := execDmaByte_cases h
  obtain ⟨hlen, -, hbase, hend⟩ := hinv.transfer hd
  obtain ⟨-, hspace⟩ := hinv.framebuffer (hinv.active_of_transfer hd)
  exact ⟨hbase, by omega, hspace⟩

/-! ### What writes memory -/

theorem transition_keeps_mem (p : Phase) {s t : State} (h : exec p.toInstr s = .next t) : t.mem = s.mem := by
  cases p with
  | sync1End =>
    simp only [Phase.toInstr, exec, execSync1End] at h
    split at h <;> cases h <;> rfl
  | vidStart =>
    cases h
    cases mapped s.params (lineOf s) <;> simp
  | sync1Start | vidBackporch | sync2Start | sync2End | reserved low =>
    cases h
    simp

theorem tick_keeps_mem {s t : State} (h : execTick s = .next t) : t.mem = s.mem := by
  obtain ⟨-, rfl⟩ | ⟨-, -, rfl⟩ | ⟨-, -, -, rfl⟩ | ⟨-, -, -, htr⟩ := execTick_cases h
  · rfl
  · rfl
  · rfl
  · rw [takeTransition_eq] at htr
    exact (transition_keeps_mem _ htr).trans rfl

theorem command_keeps_mem {c : Command} {s t : State} (h : performCommand c s = .next t) : t.mem = s.mem := by
  cases performCommand_effect h with
  | failed _ ht | started _ _ _ _ _ _ _ _ ht | refused ht | cleared _ ht | answered _ _ ht => rw [ht]; rfl

/-- An instruction leaves memory as it is, or it is the host's write and stores its byte (R71, R75). -/
theorem exec_mem {i : Instr} {s t : State} (h : exec i s = .next t) :
    t.mem = s.mem ∨ ∃ addr value, i = .hostWrite addr value ∧ t = memWrite s addr value := by
  cases exec_effect h with
  | transition p hx => exact .inl (transition_keeps_mem p hx)
  | command c _ hx => exact .inl (command_keeps_mem hx)
  | tick hx => exact .inl (tick_keeps_mem hx)
  | byte hx => exact .inl (by rw [execDmaByte_frame hx])
  | halt _ ht => exact .inl (by rw [ht]; rfl)
  | write addr value _ ht => exact .inr ⟨addr, value, rfl, ht⟩

/-- Settles O42: where memory differs after an instruction, that is a host write. -/
theorem onlyHostWritesMemory : Obligations.OnlyHostWritesMemory := by
  intro i s t h hne
  obtain hkeep | ⟨addr, value, hi, -⟩ := exec_mem h
  · exact absurd hkeep hne
  · exact ⟨addr, value, hi⟩

/-- Settles O55: the one instruction that changes memory writes it by `Memory.write`, which keeps the form. -/
theorem memoryStaysCanonical : Obligations.MemoryStaysCanonical := by
  intro i s t h hwf
  obtain hkeep | ⟨addr, value, -, rfl⟩ := exec_mem h
  · rw [hkeep]
    exact hwf
  · exact Memory.write_wf hwf _ _

/-! ### What memory decides -/

/-- The same block over another memory. -/
def withMem (m : Memory) (s : State) : State := { s with mem := m }

/-- The outcome of a step, with its next state over another memory. -/
def outcomeWithMem (m : Memory) : Host.Outcome State Fault Refusal → Host.Outcome State Fault Refusal
  | .next t => .next (withMem m t)
  | .fault f => .fault f
  | .refused r => .refused r

/-- Branch by branch, one side is the image of the other. -/
theorem ite_eq_apply_ite {α : Type} {f : α → α} {c : Prop} [Decidable c] {a b a' b' : α} (ha : a' = f a) (hb : b' = f b) :
    (if c then a' else b') = f (if c then a else b) :=
  related_ite (r := fun x x' => x' = f x) ha hb

theorem switchVideo_withMem (m : Memory) (s : State) (mode : VideoMode) :
    switchVideo (withMem m s) mode = withMem m (switchVideo s mode) :=
  ite_eq_apply_ite rfl rfl

theorem setDmaSrc_withMem (m : Memory) (s : State) (n : Nat) :
    setDmaSrc (withMem m s) n = withMem m (setDmaSrc s n) :=
  ite_eq_apply_ite rfl rfl

theorem armTransfer_withMem (m : Memory) (s : State) : armTransfer (withMem m s) = withMem m (armTransfer s) := by
  unfold armTransfer
  exact congrArg (emit · _) (setDmaSrc_withMem m { s with dma := _ } _)

/-- A transition programs the timer last. -/
theorem next_programTimer_withMem (m : Memory) {s s' : State} (h : s' = withMem m s) (d : Word) (p : Phase) :
    .next (programTimer s' d p) = outcomeWithMem m (.next (programTimer s d p)) := by
  rw [h]
  rfl

theorem transition_withMem (m : Memory) (p : Phase) (s : State) :
    exec p.toInstr (withMem m s) = outcomeWithMem m (exec p.toInstr s) := by
  cases p with
  | sync1End => exact ite_eq_apply_ite rfl rfl
  | vidStart =>
    refine next_programTimer_withMem m (ite_eq_apply_ite ?_ rfl) _ _
    rw [switchVideo_withMem, armTransfer_withMem]
  | vidBackporch => exact next_programTimer_withMem m (switchVideo_withMem m s .plain) _ _
  | sync1Start | sync2Start | sync2End | reserved low => rfl

theorem tick_withMem (m : Memory) (s : State) : execTick (withMem m s) = outcomeWithMem m (execTick s) := by
  refine ite_eq_apply_ite (ite_eq_apply_ite (ite_eq_apply_ite ?_ rfl) rfl) rfl
  rw [takeTransition_eq, takeTransition_eq]
  exact transition_withMem m _ (countTick s)

theorem command_withMem (m : Memory) (c : Command) (s : State) :
    performCommand c (withMem m s) = outcomeWithMem m (performCommand c s) := by
  cases c with
  | configure vpin spin bitord w hh =>
    refine ite_eq_apply_ite rfl (ite_eq_apply_ite rfl (ite_eq_apply_ite rfl ?_))
    rw [show providedBase (withMem m s) w hh = providedBase s w hh from rfl,
      show (withMem m s).answers.timer = s.answers.timer from rfl]
    cases providedBase s w hh with
    | none => rfl
    | some base =>
      cases s.answers.timer with
      | none => rfl
      | some f => exact ite_eq_apply_ite rfl rfl
  | teardown => exact ite_eq_apply_ite rfl rfl
  | rdreg regno =>
    simp only [performCommand, execRdreg]
    rw [show readRegister (withMem m s) regno = readRegister s regno from rfl]
    cases readRegister s regno <;> rfl
  | reservedCmd word0 => rfl

/-- But for the byte read and the host's write, the instructions commute with a change of memory (R82). -/
theorem exec_withMem (m : Memory) {i : Instr} (hread : i ≠ .dmaByte) (hwrite : ∀ addr value, i ≠ .hostWrite addr value)
    (s : State) : exec i (withMem m s) = outcomeWithMem m (exec i s) := by
  cases i with
  | sync1Start => exact transition_withMem m .sync1Start s
  | sync1End => exact transition_withMem m .sync1End s
  | vidStart => exact transition_withMem m .vidStart s
  | vidBackporch => exact transition_withMem m .vidBackporch s
  | sync2Start => exact transition_withMem m .sync2Start s
  | sync2End => exact transition_withMem m .sync2End s
  | reservedPhase low => exact transition_withMem m (.reserved low) s
  | configure vpin spin bitord w hh => exact command_withMem m (.configure vpin spin bitord w hh) s
  | teardown => exact command_withMem m .teardown s
  | rdreg regno => exact command_withMem m (.rdreg regno) s
  | reservedCmd word0 => exact command_withMem m (.reservedCmd word0) s
  | hostCmd word0 word1 => exact command_withMem m (decodeCommand word0 word1) s
  | tick => exact tick_withMem m s
  | dmaByte => exact absurd rfl hread
  | extHalt => exact ite_eq_apply_ite rfl rfl
  | hostWrite addr value => exact absurd rfl (hwrite addr value)
  | reservedEvt101 | reservedEvt11x low => rfl

/-- Settles O48: over another memory the instruction has the same outcome, over that memory. -/
theorem memoryDecidesNoTransition : Obligations.MemoryDecidesNoTransition := by
  intro i s t m hread hwrite h
  exact (exec_withMem m hread hwrite s).trans (congrArg (outcomeWithMem m) h)

/-! ### An address past the address space -/

theorem inAddressSpace_eq_false_iff (s : State) (a : Word) : inAddressSpace s a = false ↔ addressSpace s ≤ a.toNat := by
  simp [inAddressSpace]

/-- Settles O41: each of the two accesses checks its address first. -/
theorem addressOutsideSpaceStops : Obligations.AddressOutsideSpaceStops := by
  constructor
  · intro addr value s hout
    simp [exec, execHostWrite, (inAddressSpace_eq_false_iff s addr).2 hout]
  · intro s hd hf hout
    simp [exec, execDmaByte, dmaEnabled, hd, hf, (inAddressSpace_eq_false_iff s s.dma.src).2 hout]

end Machine
end Sys2Proof

/-! PROOF. No step from a reachable state raises the fault (30_encoding.md R102, 60_exceptions.md R264), a byte step finds its
byte, and only a host write stops on an address (20_memory.md R70). -/

namespace Sys2Proof
namespace Machine

/-! ### The instruction a step runs -/

/-- A step whose words decode ends as the instruction it runs ends. -/
theorem exec_of_step {s : State} {o : Host.Outcome State Fault Refusal} (h : step s = o)
    (ho : ∀ r, o ≠ .refused (.undecodable r)) : ∃ i, nextInstr s = .ok i ∧ exec i (takeScheduled s) = o := by
  unfold step at h
  cases hi : nextInstr s with
  | ok i => exact ⟨i, rfl, by simpa [hi] using h⟩
  | error r => exact absurd (by simpa [hi] using h.symm) (ho r)

/-- A step runs an event, never a phase transition of its own (R111). -/
theorem space_of_nextInstr {s : State} {i : Instr} (h : nextInstr s = .ok i) : i.space = .evt := by
  unfold nextInstr at h
  split at h
  · cases h
    rfl
  · exact space_of_decodeWhole_evt h

/-- Taking a step off the script writes the script and the ports alone. -/
theorem takeScheduled_frame (s : State) :
    takeScheduled s = { s with script := (takeScheduled s).script, answers := (takeScheduled s).answers } := by
  unfold takeScheduled
  split <;> rfl

@[simp] theorem takeScheduled_seq (s : State) : (takeScheduled s).seq = s.seq := by
  rw [takeScheduled_frame]

@[simp] theorem takeScheduled_trace (s : State) : (takeScheduled s).trace = s.trace := by
  rw [takeScheduled_frame]

@[simp] theorem takeScheduled_params (s : State) : (takeScheduled s).params = s.params := by
  rw [takeScheduled_frame]

theorem Inv.takeScheduled {s : State} (h : Inv s) : Inv (takeScheduled s) := by
  rw [takeScheduled_frame]
  exact h.schedule _ _

/-! ### The Fault events of a trace -/

def TraceEvent.isFault : TraceEvent → Bool
  | .fault _ _ => true
  | .sync _ _ | .vmode _ _ | .arm _ _ _ _ _ | .pix _ _ _ | .lost _ _ | .cfg _ _ | .down _ | .halt _ => false

/-- The Fault events of a trace: `raiseFault` adds one each time the exception is raised (60_exceptions.md R262). -/
def faultEvents (trace : List TraceEvent) : List TraceEvent := trace.filter TraceEvent.isFault

theorem faultEvents_append (a b : List TraceEvent) : faultEvents (a ++ b) = faultEvents a ++ faultEvents b :=
  List.filter_append ..

theorem faultEvents_append_event (a : List TraceEvent) {e : TraceEvent} (he : e.isFault = false) :
    faultEvents (a ++ [e]) = faultEvents a := by
  simp [faultEvents, he]

/-- A trace that grows without a Fault event. -/
theorem fault_not_mem_of_faultEvents_eq {a new : List TraceEvent} (h : faultEvents (a ++ new) = faultEvents a) (u : Nat)
    (r : BitVec 4) : TraceEvent.fault u r ∉ new := by
  intro hmem
  have hnew : faultEvents new = [] := by simpa [faultEvents_append] using h
  have hin : TraceEvent.fault u r ∈ faultEvents new := List.mem_filter.2 ⟨hmem, rfl⟩
  rw [hnew] at hin
  cases hin

theorem switchVideo_faultEvents (s : State) (m : VideoMode) :
    faultEvents (switchVideo s m).trace = faultEvents s.trace := by
  rw [switchVideo_trace]
  split
  · rfl
  · exact faultEvents_append_event _ rfl

/-- The transition of a legal phase raises no fault: R169 alone does. -/
theorem takeTransition_faultEvents {s t : State} (h : takeTransition s = .next t) (hp : s.seq.phase.toNat ≤ 5) :
    faultEvents t.trace = faultEvents s.trace := by
  obtain ⟨-, rfl⟩ | ⟨-, -, rfl⟩ | ⟨-, -, rfl⟩ | ⟨-, -, rfl⟩ | ⟨-, -, rfl⟩ | ⟨-, rfl⟩ | ⟨-, rfl⟩ | ⟨-, rfl⟩ :=
    takeTransition_cases h hp
  case inr.inr.inr.inl =>
    rw [programTimer_trace, armTransfer_trace, faultEvents_append_event _ rfl, switchVideo_faultEvents]
  case inr.inr.inr.inr.inl => rfl
  case inr.inr.inr.inr.inr.inl => exact switchVideo_faultEvents s .plain
  all_goals exact faultEvents_append_event _ rfl

theorem tick_faultEvents {s t : State} (h : execTick s = .next t) (hp : s.seq.phase.toNat ≤ 5) :
    faultEvents t.trace = faultEvents s.trace := by
  obtain ⟨-, rfl⟩ | ⟨-, -, rfl⟩ | ⟨-, -, -, rfl⟩ | ⟨-, -, -, htr⟩ := execTick_cases h
  · rfl
  · rfl
  · rfl
  · exact (takeTransition_faultEvents htr hp).trans rfl

theorem command_faultEvents {c : Command} {s t : State} (h : performCommand c s = .next t) :
    faultEvents t.trace = faultEvents s.trace := by
  cases performCommand_effect h with
  | failed _ ht | started _ _ _ _ _ _ _ _ ht | cleared _ ht => exact ht ▸ faultEvents_append_event _ rfl
  | refused ht | answered _ _ ht => exact ht ▸ rfl

theorem byte_faultEvents {s t : State} (h : execDmaByte s = .next t) : faultEvents t.trace = faultEvents s.trace := by
  rw [execDmaByte_trace h]
  refine faultEvents_append_event _ ?_
  split <;> rfl

/-- No agent's step raises a fault while PHASE is legal (R102). -/
theorem exec_faultEvents {i : Instr} {s t : State} (hi : i.space ≠ .phase) (hp : s.seq.phase.toNat ≤ 5)
    (h : exec i s = .next t) : faultEvents t.trace = faultEvents s.trace := by
  cases exec_effect h with
  | transition p _ => exact absurd (by cases p <;> rfl) hi
  | command c _ hc => exact command_faultEvents hc
  | tick htick => exact tick_faultEvents htick hp
  | byte hbyte => exact byte_faultEvents hbyte
  | halt _ ht => exact ht ▸ faultEvents_append_event _ rfl
  | write _ _ _ ht => exact ht ▸ rfl

theorem step_faultEvents {s t : State} (hp : s.seq.phase.toNat ≤ 5) (h : step s = .next t) :
    faultEvents t.trace = faultEvents s.trace := by
  obtain ⟨i, hi, hx⟩ := exec_of_step h (by simp)
  have hquiet := exec_faultEvents (by rw [space_of_nextInstr hi]; decide) (by simpa using hp) hx
  simpa using hquiet

theorem step_trace_append {s t : State} (h : step s = .next t) : ∃ new, t.trace = s.trace ++ new := by
  obtain ⟨i, -, hx⟩ := exec_of_step h (by simp)
  obtain ⟨new, htrace, -⟩ := traceIsAppended i _ t hx
  exact ⟨new, by simpa using htrace⟩

/-! ### The addresses of a reachable state -/

/-- The next byte of a transfer in flight is a byte of the address space (R77). -/
theorem Inv.dmaSrc_lt {s : State} (h : Inv s) (hd : s.dma.active = true) : s.dma.src.toNat < addressSpace s := by
  obtain ⟨hlen, -, -, hend⟩ := h.transfer hd
  obtain ⟨-, hspace⟩ := h.framebuffer (h.active_of_transfer hd)
  omega

theorem Inv.byte_completes {s : State} (h : Inv s) (hd : s.dma.active = true) : ∃ t, execDmaByte s = .next t :=
  ⟨_, by simp only [execDmaByte, dmaEnabled, inAddressSpace, hd, h.noFault, h.dmaSrc_lt hd]; rfl⟩

/-- Under the invariant only a host write can stop on an address. -/
theorem hostWrite_of_exec_fault {s : State} (h : Inv s) {i : Instr} {f : Fault} (hx : exec i s = .fault f) :
    f = .outsideAddressSpace ∧ ∃ addr value, i = .hostWrite addr value ∧ addressSpace s ≤ addr.toNat := by
  obtain ⟨hf, hwrite | ⟨-, hen, hout⟩⟩ := exec_fault_cases hx
  · exact ⟨hf, hwrite⟩
  · have hd : s.dma.active = true := (Bool.and_eq_true_iff.1 hen).1
    exact absurd (h.dmaSrc_lt hd) (Nat.not_lt.2 hout)

/-- Settles O53, by the inductive invariant: PHASE is legal, so no transition of the step raises the fault, and the transfer
lies in the address space. -/
theorem reachableStatesRaiseNoFault : Obligations.ReachableStatesRaiseNoFault := by
  intro s hreach
  have hinv := hreach.inv
  refine ⟨hinv.phaseLegal, hinv.noFault, fun t hstep => ⟨(stepKeepsInvariant s t hinv hstep).noFault, fun u r => ?_⟩,
    hinv.byte_completes, fun f hstep => ?_⟩
  · obtain ⟨new, htrace⟩ := step_trace_append hstep
    have hquiet := step_faultEvents hinv.phaseLegal hstep
    rw [htrace] at hquiet ⊢
    rw [List.drop_left]
    exact fault_not_mem_of_faultEvents_eq hquiet u r
  · obtain ⟨i, hi, hx⟩ := exec_of_step hstep (by simp)
    obtain ⟨hf, addr, value, rfl, hout⟩ := hostWrite_of_exec_fault hinv.takeScheduled hx
    rw [addressSpace_congr (takeScheduled_params s)] at hout
    exact ⟨hf, addr, value, hi, hout⟩

end Machine
end Sys2Proof

/-! PROOF. The encodings (30_encoding.md R101 to R111): the decoder reads back what the encoder writes, and what it reads is
what the encoder writes. -/

namespace Sys2Proof

/-! ### The fields of a word -/

/-- The number a field of a word holds. -/
theorem toNat_extractLsb' (w : Word) (start len : Nat) : (w.extractLsb' start len).toNat = w.toNat / 2 ^ start % 2 ^ len := by
  rw [BitVec.extractLsb'_toNat, Nat.shiftRight_eq_div_pow]

theorem toNat_configureWord0 (vpin spin : BitVec 8) (bitord : Bool) :
    (configureWord0 vpin spin bitord).toNat = 2 ^ 24 + vpin.toNat * 2 ^ 16 + spin.toNat * 2 ^ 8 + bitord.toNat := by
  have := bitord.toNat_le
  rw [configureWord0, BitVec.toNat_ofNat]
  omega

theorem toNat_configureWord1 (width height : BitVec 16) :
    (configureWord1 width height).toNat = width.toNat * 2 ^ 16 + height.toNat := by
  rw [configureWord1, BitVec.toNat_ofNat]
  omega

theorem toNat_rdregWord (regno : BitVec 8) : (rdregWord regno).toNat = 3 * 2 ^ 24 + regno.toNat := by
  rw [rdregWord, BitVec.toNat_ofNat]
  omega

theorem opcode_eq_iff (w : Word) (c : BitVec 8) : opcode w = c ↔ w.toNat / 2 ^ 24 = c.toNat := by
  rw [opcode, ← BitVec.toNat_inj, toNat_extractLsb']
  omega

/-! ### The rows of the command table, each as the words it matches -/

theorem isConfigureWord_iff (w : Word) :
    isConfigureWord w = true ↔ w.toNat / 2 ^ 24 = 1 ∧ w.toNat / 2 ^ 1 % 2 ^ 7 = 0 := by
  rw [isConfigureWord, Bool.and_eq_true, beq_iff_eq, beq_iff_eq, opcode_eq_iff, ← BitVec.toNat_inj, toNat_extractLsb']
  rfl

theorem isTeardownWord_iff (w : Word) : isTeardownWord w = true ↔ w = 0x02000000#32 := by
  rw [isTeardownWord, Bool.and_eq_true, beq_iff_eq, beq_iff_eq, opcode_eq_iff, ← BitVec.toNat_inj, ← BitVec.toNat_inj,
    toNat_extractLsb']
  simp only [BitVec.toNat_ofNat]
  omega

theorem isRdregWord_iff (w : Word) :
    isRdregWord w = true ↔ w.toNat / 2 ^ 24 = 3 ∧ w.toNat / 2 ^ 8 % 2 ^ 16 = 0 := by
  rw [isRdregWord, Bool.and_eq_true, beq_iff_eq, beq_iff_eq, opcode_eq_iff, ← BitVec.toNat_inj, toNat_extractLsb']
  rfl

theorem commandWords_eq_two_iff (w : Word) : commandWords w = 2 ↔ w.toNat / 2 ^ 24 = 1 := by
  rw [← show (1#8).toNat = 1 from rfl, ← opcode_eq_iff]
  simp [commandWords]

/-- Word 0 of CONFIGURE and its fields (R104). -/
theorem eq_configureWord0_iff (w : Word) (vpin spin : BitVec 8) (bitord : Bool) :
    w = configureWord0 vpin spin bitord ↔ isConfigureWord w = true ∧
      w.extractLsb' 16 8 = vpin ∧ w.extractLsb' 8 8 = spin ∧ (w.extractLsb' 0 1 == 1#1) = bitord := by
  have hbit : (w.extractLsb' 0 1 == 1#1) = bitord ↔ w.toNat / 2 ^ 0 % 2 ^ 1 = bitord.toNat := by
    rw [← toNat_extractLsb']
    generalize w.extractLsb' 0 1 = b
    revert b bitord
    decide
  rw [hbit, isConfigureWord_iff]
  simp only [← BitVec.toNat_inj, toNat_extractLsb', toNat_configureWord0]
  have := bitord.toNat_le
  omega

/-- Word 1 of CONFIGURE and its fields (R105). -/
theorem eq_configureWord1_iff (w : Word) (width height : BitVec 16) :
    w = configureWord1 width height ↔ w.extractLsb' 16 16 = width ∧ w.extractLsb' 0 16 = height := by
  simp only [← BitVec.toNat_inj, toNat_extractLsb', toNat_configureWord1]
  omega

/-- The word of RDREG and its field (R107). -/
theorem eq_rdregWord_iff (w : Word) (regno : BitVec 8) :
    w = rdregWord regno ↔ isRdregWord w = true ∧ w.extractLsb' 0 8 = regno := by
  rw [isRdregWord_iff]
  simp only [← BitVec.toNat_inj, toNat_extractLsb', toNat_rdregWord]
  omega

theorem commandWords_configureWord0 (vpin spin : BitVec 8) (bitord : Bool) :
    commandWords (configureWord0 vpin spin bitord) = 2 := by
  obtain ⟨hconf, -⟩ := (eq_configureWord0_iff _ vpin spin bitord).1 rfl
  exact (commandWords_eq_two_iff _).2 ((isConfigureWord_iff _).1 hconf).1

theorem commandWords_rdregWord (regno : BitVec 8) : commandWords (rdregWord regno) ≠ 2 := by
  rw [ne_eq, commandWords_eq_two_iff, toNat_rdregWord]
  omega

/-! ### The command its words select -/

/-- The rows are told apart by their opcodes (R103). -/
theorem isConfigureWord_excludes {w : Word} (h : isConfigureWord w = true) :
    isTeardownWord w = false ∧ isRdregWord w = false := by
  rw [← Bool.not_eq_true, ← Bool.not_eq_true, isTeardownWord_iff, isRdregWord_iff, ← BitVec.toNat_inj]
  rw [isConfigureWord_iff] at h
  simp only [BitVec.toNat_ofNat]
  omega

theorem isRdregWord_of_isTeardownWord {w : Word} (h : isTeardownWord w = true) : isRdregWord w = false := by
  rw [isTeardownWord_iff] at h
  subst h
  decide

theorem decodeCommand_eq_configure_iff (w0 w1 : Word) (vpin spin : BitVec 8) (bitord : Bool) (width height : BitVec 16) :
    decodeCommand w0 w1 = .configure vpin spin bitord width height ↔
      w0 = configureWord0 vpin spin bitord ∧ w1 = configureWord1 width height := by
  rw [eq_configureWord0_iff, eq_configureWord1_iff, decodeCommand]
  split_ifs <;> simp_all [and_assoc]

theorem decodeCommand_eq_teardown_iff (w0 w1 : Word) : decodeCommand w0 w1 = .teardown ↔ w0 = 0x02000000#32 := by
  rw [← isTeardownWord_iff, decodeCommand]
  split_ifs <;> simp_all [isConfigureWord_excludes]

theorem decodeCommand_eq_rdreg_iff (w0 w1 : Word) (regno : BitVec 8) :
    decodeCommand w0 w1 = .rdreg regno ↔ w0 = rdregWord regno := by
  rw [eq_rdregWord_iff, decodeCommand]
  split_ifs <;> simp_all [isConfigureWord_excludes, isRdregWord_of_isTeardownWord]

theorem decodeCommand_eq_reservedCmd_iff (w0 w1 w : Word) :
    decodeCommand w0 w1 = .reservedCmd w ↔ isReservedWord w0 = true ∧ w0 = w := by
  rw [isReservedWord, decodeCommand]
  split_ifs <;> simp_all

/-! ### A command at the front of a list of words -/

/-- The words the command port delivers: a second one where the opcode takes two (R103). -/
def portWords (w0 w1 : Word) : List Word := if commandWords w0 = 2 then [w0, w1] else [w0]

theorem portWords_two {w0 : Word} (h : commandWords w0 = 2) (w1 : Word) : portWords w0 w1 = [w0, w1] := if_pos h

theorem portWords_one {w0 : Word} (h : commandWords w0 ≠ 2) (w1 : Word) : portWords w0 w1 = [w0] := if_neg h

theorem portWords_head? (w0 w1 : Word) : (portWords w0 w1).head? = some w0 := by
  unfold portWords
  split <;> rfl

theorem portWords_length (w0 w1 : Word) : (portWords w0 w1).length = commandWords w0 := by
  unfold portWords commandWords
  split <;> rfl

theorem takeCommandWords_portWords {w0 w1 : Word} (h : commandWords w0 = 2 ∨ w1 = 0#32) (rest : List Word) :
    takeCommandWords (portWords w0 w1 ++ rest) = .ok ((w0, w1), rest) := by
  by_cases h2 : commandWords w0 = 2
  · simp [portWords_two, takeCommandWords, h2]
  · simp [portWords_one, takeCommandWords, h2, h.resolve_left h2]

theorem takeCommandWords_ok {ws rest : List Word} {w0 w1 : Word} (h : takeCommandWords ws = .ok ((w0, w1), rest)) :
    ws = portWords w0 w1 ++ rest ∧ (commandWords w0 = 2 ∨ w1 = 0#32) := by
  cases ws with
  | nil => cases h
  | cons w ws =>
    simp only [takeCommandWords] at h
    split at h
    · rename_i h2
      cases ws with
      | nil => cases h
      | cons w' ws =>
        cases h
        exact ⟨by rw [portWords_two h2]; rfl, .inl h2⟩
    · rename_i h1
      cases h
      exact ⟨by rw [portWords_one h1]; rfl, .inr rfl⟩

/-- What the encoder writes for a well-formed command is what the port delivers of it. -/
theorem encode_command {c : Command} (h : c.toInstr.wf = true) :
    ∃ w0 w1, encode c.toInstr = portWords w0 w1 ∧ (commandWords w0 = 2 ∨ w1 = 0#32) ∧ decodeCommand w0 w1 = c := by
  cases c with
  | configure vpin spin bitord width height =>
    have h2 := commandWords_configureWord0 vpin spin bitord
    exact ⟨_, _, (portWords_two h2 _).symm, .inl h2, (decodeCommand_eq_configure_iff ..).2 ⟨rfl, rfl⟩⟩
  | teardown => exact ⟨_, 0#32, rfl, .inr rfl, (decodeCommand_eq_teardown_iff ..).2 rfl⟩
  | rdreg regno =>
    exact ⟨_, 0#32, (portWords_one (commandWords_rdregWord regno) _).symm, .inr rfl, (decodeCommand_eq_rdreg_iff ..).2 rfl⟩
  | reservedCmd w => exact ⟨w, 0#32, rfl, .inr rfl, (decodeCommand_eq_reservedCmd_iff ..).2 ⟨h, rfl⟩⟩

theorem decode_encode_command {c : Command} (h : c.toInstr.wf = true) (rest : List Word) :
    decode .cmd (encode c.toInstr ++ rest) = .ok (c.toInstr, rest) := by
  obtain ⟨w0, w1, hwords, hport, hc⟩ := encode_command h
  simp [hwords, decode, takeCommandWords_portWords hport, hc]

/-- The words of a command are those the port delivered, but for the second word of an illegal CONFIGURE (R108). -/
theorem encode_decodeCommand (w0 w1 : Word) :
    encode (decodeCommand w0 w1).toInstr = portWords w0 w1 ∨
      decodeCommand w0 w1 = .reservedCmd w0 ∧ encode (decodeCommand w0 w1).toInstr = portWords w0 0#32 := by
  cases hc : decodeCommand w0 w1 with
  | configure vpin spin bitord width height =>
    obtain ⟨rfl, rfl⟩ := (decodeCommand_eq_configure_iff ..).1 hc
    exact .inl (portWords_two (commandWords_configureWord0 ..) _).symm
  | teardown =>
    obtain rfl := (decodeCommand_eq_teardown_iff ..).1 hc
    exact .inl rfl
  | rdreg regno =>
    obtain rfl := (decodeCommand_eq_rdreg_iff ..).1 hc
    exact .inl (portWords_one (commandWords_rdregWord regno) _).symm
  | reservedCmd w =>
    obtain ⟨-, rfl⟩ := (decodeCommand_eq_reservedCmd_iff ..).1 hc
    exact .inr ⟨rfl, rfl⟩

theorem decodeCommand_wf (w0 w1 : Word) : (decodeCommand w0 w1).toInstr.wf = true := by
  cases hc : decodeCommand w0 w1 with
  | reservedCmd w =>
    obtain ⟨hr, rfl⟩ := (decodeCommand_eq_reservedCmd_iff ..).1 hc
    exact hr
  | configure | teardown | rdreg => rfl

/-! ### A phase code and an event at the front of a list of words -/

theorem Phase.ofCode_code (p : Phase) : Phase.ofCode p.code = p := by
  cases p with
  | reserved low => cases low <;> rfl
  | sync1Start | sync1End | vidStart | vidBackporch | sync2Start | sync2End => rfl

theorem Phase.code_ofCode (c : BitVec 3) : (Phase.ofCode c).code = c := by
  revert c
  decide

theorem Phase.encode_toInstr (p : Phase) : encode p.toInstr = [p.code.setWidth 32] := by
  cases p with
  | reserved low => cases low <;> rfl
  | sync1Start | sync1End | vidStart | vidBackporch | sync2Start | sync2End => rfl

theorem decode_encode_phase (p : Phase) (rest : List Word) :
    decode .phase (encode p.toInstr ++ rest) = .ok (p.toInstr, rest) := by
  have hcode : (p.code.setWidth 32).setWidth 3 = p.code := by simp
  have hlt : (p.code.setWidth 32).toNat < 8 := by bv_omega
  rw [Phase.encode_toInstr, List.singleton_append, decode, if_pos hlt, hcode, Phase.ofCode_code]

theorem decode_phase_ok {ws rest : List Word} {i : Instr} (h : decode .phase ws = .ok (i, rest)) :
    ∃ p : Phase, i = p.toInstr ∧ ws = encode p.toInstr ++ rest := by
  cases ws with
  | nil => cases h
  | cons c ws =>
    simp only [decode] at h
    split at h <;> cases h
    have hcode : (c.setWidth 3).setWidth 32 = c := by bv_omega
    exact ⟨_, rfl, by rw [Phase.encode_toInstr, Phase.code_ofCode, hcode]; rfl⟩

theorem hostCmd_wf_iff (w0 w1 : Word) : (Instr.hostCmd w0 w1).wf = true ↔ commandWords w0 = 2 ∨ w1 = 0#32 := by
  simp [Instr.wf, commandWords]

theorem decodeEvent_hostWrite (addr : Word) (value : Byte) (rest : List Word) :
    decodeEvent (3#32 :: addr :: value.setWidth 32 :: rest) = .ok (.hostWrite addr value, rest) := by
  have hbyte : (value.setWidth 32).toNat < 256 := by bv_omega
  have hvalue : (value.setWidth 32).setWidth 8 = value := by simp
  show (if (value.setWidth 32).toNat < 256 then Except.ok _ else _) = _
  rw [if_pos hbyte, hvalue]

theorem decodeEvent_hostCmd {w0 w1 : Word} (h : commandWords w0 = 2 ∨ w1 = 0#32) (rest : List Word) :
    decodeEvent (4#32 :: (portWords w0 w1 ++ rest)) = .ok (.hostCmd w0 w1, rest) := by
  simp [decodeEvent, takeCommandWords_portWords h]

theorem eq_ofNat_of_toNat_eq {c : Word} {n : Nat} (h : c.toNat = n) : c = BitVec.ofNat 32 n := by
  rw [← h, BitVec.ofNat_toNat, BitVec.setWidth_eq]

/-- What the decoder reads as an event is the event's words. -/
theorem decodeEvent_ok {ws rest : List Word} {i : Instr} (h : decodeEvent ws = .ok (i, rest)) :
    i.wf = true ∧ ws = encode i ++ rest := by
  unfold decodeEvent at h
  split at h
  · cases h
  rename_i c operands
  split at h
  case h_9 => cases h
  all_goals obtain rfl := eq_ofNat_of_toNat_eq ‹c.toNat = _›
  case h_4 =>
    split at h
    · split at h <;> cases h
      rename_i value hbyte
      have hvalue : (value.setWidth 8).setWidth 32 = value := by bv_omega
      exact ⟨rfl, by rw [encode, hvalue]; rfl⟩
    · cases h
  case h_5 =>
    split at h <;> cases h
    obtain ⟨rfl, hport⟩ := takeCommandWords_ok ‹_›
    exact ⟨(hostCmd_wf_iff ..).2 hport, rfl⟩
  all_goals
    cases h
    exact ⟨rfl, rfl⟩

/-! ### The obligations -/

/-- Settles O58: by the space of the instruction, its words are read as a phase code, a command or an event. -/
theorem decodeEncodeAgree : Obligations.DecodeEncodeAgree := by
  intro i rest h
  cases i with
  | sync1Start => exact decode_encode_phase .sync1Start rest
  | sync1End => exact decode_encode_phase .sync1End rest
  | vidStart => exact decode_encode_phase .vidStart rest
  | vidBackporch => exact decode_encode_phase .vidBackporch rest
  | sync2Start => exact decode_encode_phase .sync2Start rest
  | sync2End => exact decode_encode_phase .sync2End rest
  | reservedPhase low => exact decode_encode_phase (.reserved low) rest
  | configure vpin spin bitord width height =>
    exact decode_encode_command (c := .configure vpin spin bitord width height) h rest
  | teardown => exact decode_encode_command (c := .teardown) h rest
  | rdreg regno => exact decode_encode_command (c := .rdreg regno) h rest
  | reservedCmd word0 => exact decode_encode_command (c := .reservedCmd word0) h rest
  | hostWrite addr value => exact decodeEvent_hostWrite addr value rest
  | hostCmd word0 word1 => exact decodeEvent_hostCmd ((hostCmd_wf_iff ..).1 h) rest
  | reservedEvt11x low => cases low <;> rfl
  | tick | dmaByte | extHalt | reservedEvt101 => rfl

/-- The words read are the instruction's own. -/
theorem used_of_eq_encode {P : Prop} {ws rest : List Word} {i : Instr} (h : ws = encode i ++ rest) :
    ∃ used, ws = used ++ rest ∧ used.length = (encode i).length ∧ used.head? = (encode i).head? ∧
      (P → used = encode i) :=
  ⟨encode i, h, rfl, rfl, fun _ => rfl⟩

/-- Settles O59: a phase code or an event is read as its own words. So is a command, but for an illegal CONFIGURE, whose
second word the decoder takes and does not keep. -/
theorem decodedWordsAreTheInstruction : Obligations.DecodedWordsAreTheInstruction := by
  intro sp ws rest i h
  cases sp with
  | phase =>
    obtain ⟨p, rfl, hws⟩ := decode_phase_ok h
    exact ⟨by cases p <;> rfl, by cases p <;> rfl, used_of_eq_encode hws⟩
  | evt =>
    obtain ⟨hwf, hws⟩ := decodeEvent_ok h
    exact ⟨hwf, Machine.space_of_decodeEvent h, used_of_eq_encode hws⟩
  | cmd =>
    simp only [decode] at h
    split at h <;> cases h
    rename_i w0 w1 hport
    obtain ⟨rfl, -⟩ := takeCommandWords_ok hport
    refine ⟨decodeCommand_wf w0 w1, by cases decodeCommand w0 w1 <;> rfl, ?_⟩
    obtain hwords | ⟨hc, hwords⟩ := encode_decodeCommand w0 w1
    · exact used_of_eq_encode (by rw [hwords])
    · refine ⟨portWords w0 w1, rfl, ?_, ?_, fun hone => ?_⟩
      · rw [hwords, portWords_length, portWords_length]
      · rw [hwords, portWords_head?, portWords_head?]
      · have h1 : commandWords w0 = 1 := hone w0 (by rw [hc]; rfl)
        rw [hwords, portWords_one (by omega), portWords_one (by omega)]

/-- Settles O43: the codes by the decoder's table, the operands of the two events that have them by their own laws. -/
theorem eventCodes : Obligations.EventCodes := by
  refine ⟨fun _ => rfl, fun _ => rfl, fun _ => rfl, decodeEvent_hostWrite, fun w0 w1 rest h2 => ?_, fun w0 rest h1 => ?_,
    fun _ => rfl, fun _ => rfl, fun _ => rfl, fun _ => rfl, fun _ => rfl, fun _ => rfl⟩
  · have h := decodeEvent_hostCmd (w1 := w1) (.inl h2) rest
    rwa [portWords_two h2] at h
  · have h := decodeEvent_hostCmd (w0 := w0) (.inr rfl) rest
    rwa [portWords_one (by omega)] at h

/-- Settles O60: the decoder evaluated on each list of words. -/
theorem sampleWordsDecode : Obligations.SampleWordsDecode := by
  unfold Obligations.SampleWordsDecode
  decide

end Sys2Proof

/-! PROOF. The Line/Field Sequencer (40_line_field_sequencer.md): line in field and row of a mapped line, the laws of R149 and the
classification of R150. -/

namespace Sys2Proof
namespace Machine

/-- The row is the floor of R147 over the integers, where the line in field is not negative. -/
theorem row_eq_ediv {p : Params} {l : Nat} (h : Nat) (h0 : 0 ≤ lineInField p l) :
    (row p l h : Int) = lineInField p l * h / 270 := by
  rw [row, mappedLines, Int.natCast_ediv, Int.natCast_mul, Int.toNat_of_nonneg h0]
  rfl

/-- A later line of a field has a row at least as far down. -/
theorem row_mono {p : Params} {l l' : Nat} (h : Nat) (hle : lineInField p l ≤ lineInField p l') :
    row p l h ≤ row p l' h :=
  Nat.div_le_div_right (Nat.mul_le_mul_right h (Int.toNat_le_toNat hle))

/-- The row depends on the line only through its place in the field. -/
theorem row_congr {p : Params} {l l' : Nat} (h : Nat) (heq : lineInField p l = lineInField p l') :
    row p l h = row p l' h := by
  rw [row, row, heq]

/-- Settles O3: R147's floor over the integers, and the bounds of a mapped line's row. -/
theorem rowAndRowAddress : Obligations.RowAndRowAddress := by
  intro p l h base bpr hm h1
  obtain ⟨-, hnonneg, -⟩ := (mapped_iff p l).1 hm
  exact ⟨row_eq_ediv h hnonneg, row_lt hm h1, rfl, rowAddr_end hm h1⟩

/-- No visible line has a long pulse (R149, law 2). -/
theorem longSync_of_vis {l : Nat} (hv : vis l = true) : longSync1 l = false ∧ longSync2 l = false := by
  simp only [Bool.eq_false_iff, ne_eq, longSync1_iff, longSync2_iff]
  rw [vis_iff] at hv
  omega

section Defaults

variable {p : Params} (hbase : p.field2Base = 312) (hallow : p.vblankAllow = 5)
include hbase hallow

theorem lineInField_field1 {l : Nat} (hl : l < 312) : lineInField p l = l - 5 := by
  simp [lineInField, fieldBase, hbase, hallow, hl]

theorem lineInField_field2 {l : Nat} (hl : 312 ≤ l) : lineInField p l = l - 317 := by
  rw [lineInField, fieldBase, hbase, hallow, if_neg (by omega)]
  omega

/-- The mapped lines of the defaults: the first 270 visible lines of each field (R146). -/
theorem mapped_default_iff (l : Nat) : mapped p l = true ↔ (5 ≤ l ∧ l ≤ 274) ∨ (317 ≤ l ∧ l ≤ 586) := by
  rw [mapped_iff, vis_iff]
  obtain hl | hl := Nat.lt_or_ge l 312
  · rw [lineInField_field1 hbase hallow hl]
    omega
  · rw [lineInField_field2 hbase hallow hl]
    omega

/-- A mapped line of field 1 and the line 312 after it stand at the same place of their fields. -/
theorem lineInField_add_312 {l : Nat} (hl : l < 312) : lineInField p l = lineInField p (l + 312) := by
  rw [lineInField_field1 hbase hallow hl, lineInField_field2 hbase hallow (by omega)]
  omega

end Defaults

/-- Settles O2: the laws in order, the bound of law 3 by the row's place in the framebuffer. -/
theorem sequencerLaws : Obligations.SequencerLaws := by
  refine ⟨fun l _ => vis_iff l, fun _ => longSync_of_vis, fun p l l' h hm _ => ⟨row_mono h, fun h1 => ?_⟩,
    fun p l h hbase hallow _ hl => ?_⟩
  · exact Nat.le_sub_one_of_lt (row_lt hm h1)
  · have heq := lineInField_add_312 hbase hallow (l := l) (by omega)
    exact ⟨heq, row_congr h heq⟩

/-- Settles O1: each predicate is a union of line ranges, so a row of the table compares its lines with their ends. -/
theorem lineClassification : Obligations.LineClassification := by
  intro p l hbase hallow _
  simp only [Bool.eq_false_iff, ne_eq, vis_iff, longSync1_iff, longSync2_iff, mapped_default_iff hbase hallow]
  refine ⟨?_, ?_, ?_, ?_, ?_, ?_, ?_, ?_, ?_, ?_, ?_, ?_⟩ <;> omega

end Machine
end Sys2Proof

/-! PROOF. The line timer and its expiry (41_pulse_state_machine.md R160 to R162), and the whole next state of each transition
(R163 to R169). -/

namespace Sys2Proof
namespace Machine

/-! ### A tick -/

theorem execTick_stopped {s : State} (hr : s.tmr.ctrl.run = false) : execTick s = .next (countTick s) := by
  simp [execTick, hr]

theorem execTick_counting {s : State} (hr : s.tmr.ctrl.run = true) (hc : 2 ≤ s.tmr.count.toNat) :
    execTick s = .next (setCount (countTick s) (s.tmr.count - 1#32)) := by
  have hleft : ticksLeft s ≠ 0 := (ticksLeft_eq_zero_iff s).not.2 (by omega)
  have hcount : BitVec.ofNat 32 (ticksLeft s) = s.tmr.count - 1#32 := by
    unfold ticksLeft
    bv_omega
  simp [execTick, hr, hleft, hcount]

theorem execTick_masked {s : State} (hr : s.tmr.ctrl.run = true) (hc : s.tmr.count.toNat ≤ 1)
    (hi : s.tmr.ctrl.irqEn = false) : execTick s = .next (setCount (countTick s) s.tmr.period) := by
  simp [execTick, hr, hi, (ticksLeft_eq_zero_iff s).2 hc]

theorem execTick_expiry {s : State} (hr : s.tmr.ctrl.run = true) (hc : s.tmr.count.toNat ≤ 1)
    (hi : s.tmr.ctrl.irqEn = true) : execTick s = exec (Phase.ofCode s.seq.phase).toInstr (countTick s) := by
  simp [execTick, hr, hi, (ticksLeft_eq_zero_iff s).2 hc, takeTransition_eq]

theorem execTick_next (s : State) : ∃ t, execTick s = .next t := by
  cases hr : s.tmr.ctrl.run with
  | false => exact ⟨_, execTick_stopped hr⟩
  | true =>
    obtain hc | hc := Nat.lt_or_ge 1 s.tmr.count.toNat
    · exact ⟨_, execTick_counting hr hc⟩
    · cases hi : s.tmr.ctrl.irqEn with
      | false => exact ⟨_, execTick_masked hr hc hi⟩
      | true =>
        rw [execTick_expiry hr hc hi]
        exact takeTransition_eq (countTick s) ▸ takeTransition_next (countTick s)

/-- Settles O4: one clause for each case of a tick, NOW by the law of every step. -/
theorem tickStep : Obligations.TickStep := by
  refine ⟨fun _ => execTick_stopped, fun _ => execTick_counting, fun _ => execTick_masked, fun _ => execTick_expiry,
    fun s => ?_⟩
  obtain ⟨t, ht⟩ := execTick_next s
  exact ⟨t, ht, nowDecidesNothing.1 .tick s t ht⟩

/-- Settles O5: an enabled expiry, at each of the eight codes. -/
theorem expiryDispatch : Obligations.ExpiryDispatch := by
  intro s hr hc hi
  have dispatch (p : Phase) (hp : s.seq.phase = p.code) : exec .tick s = exec p.toInstr { s with now := s.now + 1 } := by
    have h := execTick_expiry hr hc hi
    rwa [hp, Phase.ofCode_code] at h
  exact ⟨dispatch .sync1Start, dispatch .sync1End, dispatch .vidStart, dispatch .vidBackporch, dispatch .sync2Start,
    dispatch .sync2End, dispatch (.reserved false), dispatch (.reserved true)⟩

/-! ### Ticks one after another -/

theorem execAll_append_single {is : List Instr} {s t : State} (h : execAll is s = .next t) (i : Instr) :
    execAll (is ++ [i]) s = exec i t := by
  induction is generalizing s with
  | nil =>
    cases h
    simp only [List.nil_append, execAll]
    cases exec i t <;> rfl
  | cons j is ih =>
    simp only [List.cons_append, execAll] at h ⊢
    cases hj : exec j s with
    | next u =>
      simp only [hj] at h ⊢
      exact ih h
    | fault f => simp [hj] at h
    | refused r => simp [hj] at h

/-- `k` ticks later, when the timer has only counted (R160). -/
def countedTicks (k : Nat) (s : State) : State :=
  { s with now := s.now + k, tmr := { s.tmr with count := BitVec.ofNat 32 (s.tmr.count.toNat - k) } }

theorem execAll_ticks_counting {s : State} (hr : s.tmr.ctrl.run = true) {k : Nat} (hk : k < s.tmr.count.toNat) :
    execAll (List.replicate k .tick) s = .next (countedTicks k s) := by
  induction k with
  | zero => simp [execAll, countedTicks]
  | succ k ih =>
    have hcount : (countedTicks k s).tmr.count.toNat = s.tmr.count.toNat - k := by
      simp only [countedTicks, BitVec.toNat_ofNat]
      omega
    have hnext : (countedTicks k s).tmr.count - 1#32 = BitVec.ofNat 32 (s.tmr.count.toNat - (k + 1)) := by
      bv_omega
    rw [List.replicate_succ', execAll_append_single (ih (by omega))]
    refine (execTick_counting (s := countedTicks k s) hr (by omega)).trans ?_
    rw [hnext]
    rfl

/-- Settles O6: by induction on the ticks the timer only counts, and the tick after the last of them is the expiry. -/
theorem nextExpiryAfterCountTicks : Obligations.NextExpiryAfterCountTicks := by
  intro s hr h1
  refine ⟨fun k hk => execAll_ticks_counting hr hk, fun hi => ?_⟩
  obtain ⟨n, hn⟩ : ∃ n, s.tmr.count.toNat = n + 1 := ⟨s.tmr.count.toNat - 1, by omega⟩
  have hcount : (countedTicks n s).tmr.count = 1#32 := by simp [countedTicks, hn]
  rw [hn, List.replicate_succ', execAll_append_single (execAll_ticks_counting hr (by omega))]
  refine (execTick_expiry (s := countedTicks n s) hr (by rw [hcount]; decide) hi).trans ?_
  simp [countTick, countedTicks, hn, Nat.add_assoc]

/-! ### The transitions of the sync pin -/

/-- Settles O7: the pulse is long exactly on a blank line that needs it. -/
theorem sync1StartTransition : Obligations.Sync1StartTransition := by
  rintro s l d rfl rfl
  simp only [← Bool.not_eq_true', ← Bool.or_eq_true]
  rfl

/-- Settles O8: the line's visibility decides the branch. -/
theorem sync1EndTransition : Obligations.Sync1EndTransition := by
  intro s d p hvisible hblank
  cases hv : vis s.seq.line.toNat with
  | false =>
    obtain ⟨rfl, rfl⟩ := hblank hv
    exact if_neg (Bool.eq_false_iff.1 hv)
  | true =>
    obtain ⟨rfl, rfl⟩ := hvisible hv
    exact if_pos hv

/-- Settles O12: the pulse by the SYNC2 predicate of the line. -/
theorem sync2StartTransition : Obligations.Sync2StartTransition := by
  rintro s d rfl
  rfl

/-- Settles O13: the gap by the SYNC1 predicate of the line, as 90_conflicts.md C1 has it. -/
theorem sync2EndTransition : Obligations.Sync2EndTransition := by
  rintro s d rfl
  rfl

/-- Settles O14: all that raising the fault does. -/
theorem reservedPhaseFaults : Obligations.ReservedPhaseFaults :=
  fun _ s => congrArg Host.Outcome.next (raiseFault_eq s badPhase)

/-! ### The transitions of the video pin -/

/-- All that switching the video pin does. -/
theorem switchVideo_eq (s : State) (m : VideoMode) :
    switchVideo s m =
      { s with
        pins := { s.pins with videoMode := m }
        trace := s.trace ++ (if s.pins.videoMode = m then [] else [.vmode s.now m])
        gap := (switchVideo s m).gap } := by
  unfold switchVideo
  split
  · rename_i hm
    simp [← hm]
  · rfl

/-- All that arming a transfer does (42_scanline_transfer.md R201). -/
theorem armTransfer_eq (s : State) :
    armTransfer s =
      { s with
        dma := { src := (armTransfer s).dma.src, len := s.geom.bytesPerRow, active := true }
        trace := (armTransfer s).trace
        draws := (armTransfer s).draws } := by
  unfold armTransfer setDmaSrc
  dsimp only
  split <;> rfl

/-- Where the row's address fits, DMA_SRC takes it and no free value is taken. -/
theorem armTransfer_fits {s : State}
    (h : rowAddr s.params (lineOf s) s.geom.height.toNat s.fb.base.toNat s.geom.bytesPerRow.toNat < addressSpace s) :
    (armTransfer s).dma.src.toNat =
        rowAddr s.params (lineOf s) s.geom.height.toNat s.fb.base.toNat s.geom.bytesPerRow.toNat ∧
      (armTransfer s).draws = s.draws := by
  constructor
  · rw [armTransfer_dma h]
    exact Nat.mod_eq_of_lt (h.trans_le (addressSpace_le s))
  · simp only [armTransfer, emit_draws, setDmaSrc_draws]
    exact if_pos h

theorem execVidStart_mapped {s : State} (h : mapped s.params (lineOf s) = true) :
    execVidStart s = .next (programTimer (armTransfer (switchVideo s .serial)) s.geom.dActive .vidBackporch) := by
  simp [execVidStart, h]

/-- Settles O9: the pin is switched first, which writes nothing that arming reads. -/
theorem vidStartArmsMappedLine : Obligations.VidStartArmsMappedLine := by
  intro s hm
  have hfit := armTransfer_fits (s := switchVideo s .serial)
  refine ⟨(armTransfer (switchVideo s .serial)).dma.src, (armTransfer (switchVideo s .serial)).draws,
    (switchVideo s .serial).gap, by simpa [rowAddr, lineOf, addressSpace] using hfit, ?_⟩
  refine (execVidStart_mapped hm).trans ?_
  rw [armTransfer_eq, armTransfer_trace, switchVideo_eq]
  cases hmode : s.pins.videoMode <;> simp [hmode, programTimer, Phase.code, rowAddr, lineOf]

/-- Settles O11: the pin is switched to PLAIN, which opens no interval of the serializer. -/
theorem vidBackporchTransition : Obligations.VidBackporchTransition := by
  intro s
  show Host.Outcome.next (programTimer (switchVideo s .plain) s.geom.dBackPorch .sync1Start) = _
  rw [switchVideo_eq]
  cases hmode : s.pins.videoMode <;> simp [hmode, programTimer, Phase.code]

end Machine
end Sys2Proof

/-! PROOF. Lines and frames: the phase, the line and the duration each transition leaves, the four transitions of a line and the
2500 of a frame (41_pulse_state_machine.md R172 to R175). -/

namespace Sys2Proof

/-! ### The phases of a line -/

/-- The line a transition of the phase leaves: SYNC1_START alone advances it (R163). -/
def Phase.lineAfter : Phase → Nat → Nat
  | .sync1Start, l => Machine.nextLine l
  | .sync1End, l | .vidStart, l | .vidBackporch, l | .sync2Start, l | .sync2End, l | .reserved _, l => l

/-- The successor of a phase on a line (10_state.md R33); a reserved phase has none and stays (R169). -/
def Phase.successor (l : Nat) : Phase → Phase
  | .sync1Start => .sync1End
  | .sync1End => if Machine.vis l then .vidStart else .sync2Start
  | .vidStart => .vidBackporch
  | .sync2Start => .sync2End
  | .vidBackporch | .sync2End => .sync1Start
  | .reserved low => .reserved low

/-- How many transitions of its line a phase comes after (R175); 4 is no such number and marks a reserved phase. -/
def Phase.beat : Phase → Nat
  | .sync1Start => 0
  | .sync1End => 1
  | .vidStart | .sync2Start => 2
  | .vidBackporch | .sync2End => 3
  | .reserved _ => 4

theorem Phase.not_beat_reserved_lt (low : Bool) : ¬(Phase.reserved low).beat < 4 := Nat.lt_irrefl 4

theorem Phase.beat_successor (l : Nat) {p : Phase} (hp : p.beat < 4) : (p.successor l).beat = (p.beat + 1) % 4 := by
  cases p with
  | reserved low => exact absurd hp (Phase.not_beat_reserved_lt low)
  | sync1End => cases hv : Machine.vis l <;> simp [Phase.successor, Phase.beat, hv]
  | sync1Start | vidStart | vidBackporch | sync2Start | sync2End => rfl

theorem Phase.beat_eq_zero_iff (p : Phase) : p.beat = 0 ↔ p = .sync1Start := by
  cases p <;> simp [Phase.beat]

theorem Phase.code_eq_zero_iff (p : Phase) : p.code = 0#3 ↔ p.beat = 0 := by
  cases p with
  | reserved low => cases low <;> decide
  | sync1Start | sync1End | vidStart | vidBackporch | sync2Start | sync2End => decide

theorem Phase.beat_ofCode_lt {c : BitVec 3} (h : c.toNat ≤ 5) : (Phase.ofCode c).beat < 4 := by
  revert c
  decide

theorem Phase.lineAfter_le (p : Phase) {l : Nat} (hl : l ≤ 624) : p.lineAfter l ≤ 624 := by
  cases p with
  | sync1Start => exact Machine.nextLine_le l
  | sync1End | vidStart | vidBackporch | sync2Start | sync2End | reserved low => exact hl

theorem Phase.lineAfter_of_beat_ne_zero {p : Phase} (hp : p.beat ≠ 0) (l : Nat) : p.lineAfter l = l := by
  cases p with
  | sync1Start => exact absurd rfl hp
  | sync1End | vidStart | vidBackporch | sync2Start | sync2End | reserved low => rfl

namespace Machine

/-! ### One transition -/

/-- The duration the transition of a phase programs, by the line it leaves (R172); a reserved phase programs none (R169). -/
def Geometry.duration (g : Geometry) (l : Nat) : Phase → Word
  | .sync1Start => if vis l || !longSync1 l then g.dShortOn else g.dLongOn
  | .sync1End => if vis l then g.dFrontPorch else if longSync1 l then g.dLongOff else g.dShortOff
  | .vidStart => g.dActive
  | .vidBackporch => g.dBackPorch
  | .sync2Start => if longSync2 l then g.dLongOn else g.dShortOn
  | .sync2End => if longSync1 l then g.dLongOff else g.dShortOff
  | .reserved _ => 0#32

theorem Geometry.duration_sync1Start_visible (g : Geometry) {l : Nat} (hv : vis l = true) :
    g.duration l .sync1Start = g.dShortOn := by
  simp [duration, hv]

theorem Geometry.duration_sync1Start_blank (g : Geometry) {l : Nat} (hv : vis l = false) :
    g.duration l .sync1Start = if longSync1 l then g.dLongOn else g.dShortOn := by
  cases h1 : longSync1 l <;> simp [duration, hv, h1]

/-- The sequencer stands in a phase on a line of a session with these durations. -/
structure StandsAt (g : Geometry) (p : Phase) (l : Nat) (s : State) : Prop where
  geom : s.geom = g
  phase : s.seq.phase = p.code
  line : lineOf s = l

/-- The phase and the line are all the sequencer's registers. -/
theorem StandsAt.seq_eq {g g' : Geometry} {p : Phase} {l : Nat} {s t : State} (h : StandsAt g p l s)
    (h' : StandsAt g' p l t) : t.seq = s.seq := by
  have hphase : t.seq.phase = s.seq.phase := h'.phase.trans h.phase.symm
  have hline : t.seq.line = s.seq.line := BitVec.eq_of_toNat_eq (h'.line.trans h.line.symm)
  calc t.seq = ⟨t.seq.phase, t.seq.line⟩ := rfl
    _ = s.seq := by rw [hphase, hline]

/-- The transition of a legal phase completes: where it leaves the sequencer, and the duration it programs. -/
theorem StandsAt.transition {g : Geometry} {p : Phase} {l : Nat} {s : State} (h : StandsAt g p l s) (hp : p.beat < 4) :
    ∃ t, takeTransition s = .next t ∧ StandsAt g (p.successor (p.lineAfter l)) (p.lineAfter l) t ∧
      t.tmr.period = g.duration (p.lineAfter l) p ∧ t.tmr.count = t.tmr.period := by
  obtain ⟨rfl, hphase, rfl⟩ := h
  have hx : takeTransition s = exec p.toInstr s := by rw [takeTransition_eq, hphase, Phase.ofCode_code]
  rw [hx]
  cases p with
  | sync1Start => exact ⟨_, rfl, ⟨rfl, rfl, toNat_ofNat_nextLine _⟩, rfl, rfl⟩
  | sync1End =>
    cases hv : vis (lineOf s)
    all_goals
      simp only [Phase.toInstr, exec, execSync1End, Phase.lineAfter, Phase.successor, Geometry.duration, hv]
      exact ⟨_, rfl, ⟨rfl, rfl, rfl⟩, rfl, rfl⟩
  | vidStart =>
    simp only [Phase.toInstr, exec, execVidStart, Phase.lineAfter]
    split <;> exact ⟨_, rfl, ⟨by simp, by simp [Phase.successor], by simp [lineOf]⟩, rfl, rfl⟩
  | vidBackporch =>
    exact ⟨_, rfl, ⟨by simp, by simp [Phase.successor], by simp [lineOf, Phase.lineAfter]⟩, rfl, rfl⟩
  | sync2Start | sync2End => exact ⟨_, rfl, ⟨rfl, rfl, rfl⟩, rfl, rfl⟩
  | reserved low => exact absurd hp (Phase.not_beat_reserved_lt low)

/-- After its SYNC1_START a line stays, until its four transitions are done. -/
theorem StandsAt.transition_in_line {g : Geometry} {p : Phase} {l : Nat} {s : State} (h : StandsAt g p l s)
    (h0 : p.beat ≠ 0) (h4 : p.beat < 4) :
    ∃ t, takeTransition s = .next t ∧ StandsAt g (p.successor l) l t ∧ t.tmr.period = g.duration l p ∧
      (p.successor l).beat = (p.beat + 1) % 4 := by
  obtain ⟨t, hx, hstands, hperiod, -⟩ := h.transition h4
  rw [Phase.lineAfter_of_beat_ne_zero h0] at hstands hperiod
  exact ⟨t, hx, hstands, hperiod, Phase.beat_successor l h4⟩

/-- Settles O16: a row of the table is the duration of its phase, on the line the transition leaves. -/
theorem durationTable : Obligations.DurationTable := by
  intro s t hp hx
  have h : StandsAt s.geom (Phase.ofCode s.seq.phase) (lineOf s) s := ⟨rfl, (Phase.code_ofCode _).symm, rfl⟩
  obtain ⟨t', ht, hstands, hperiod, hcount⟩ := h.transition (Phase.beat_ofCode_lt hp)
  rw [takeTransition_eq, hx] at ht
  cases ht
  have row (p : Phase) (e : s.seq.phase = p.code) : t.tmr.period = s.geom.duration t.seq.line.toNat p := by
    rw [hperiod, ← hstands.line, e, Phase.ofCode_code, lineOf]
  refine ⟨hcount, fun hv => ⟨fun e => ?_, fun e => ?_, row .vidStart, row .vidBackporch⟩,
    fun hv => ⟨fun e => ?_, fun e => ?_, row .sync2Start, row .sync2End⟩⟩
  · exact (row .sync1Start e).trans (Geometry.duration_sync1Start_visible _ hv)
  · exact (row .sync1End e).trans (if_pos hv)
  · exact (row .sync1Start e).trans (Geometry.duration_sync1Start_blank _ hv)
  · exact (row .sync1End e).trans (if_neg (Bool.eq_false_iff.1 hv))

/-! ### Transitions one after another -/

theorem transitions_succ {s t : State} (h : takeTransition s = .next t) (n : Nat) :
    transitions (n + 1) s = (transitions n t).map fun r => (r.1, r.2 + t.tmr.period.toNat) := by
  rw [transitions, h]

theorem transitions_one {s t : State} (h : takeTransition s = .next t) :
    transitions 1 s = some (t, t.tmr.period.toNat) := by
  rw [transitions_succ h, transitions, Option.map_some, Nat.zero_add]

theorem transitions_append {m n a b : Nat} {s u t : State} (h : transitions m s = some (u, a))
    (h' : transitions n u = some (t, b)) : transitions (m + n) s = some (t, a + b) := by
  induction m generalizing s a with
  | zero =>
    cases h
    rwa [Nat.zero_add, Nat.zero_add]
  | succ m ih =>
    obtain ⟨v, hv⟩ := takeTransition_next s
    rw [transitions_succ hv, Option.map_eq_some_iff] at h
    obtain ⟨⟨u', a'⟩, hrest, heq⟩ := h
    cases heq
    rw [Nat.succ_add, transitions_succ hv, ih hrest, Option.map_some, Nat.add_right_comm]

/-- After any number of transitions the sequencer stands on a line of the frame, that many beats further. -/
theorem StandsAt.after_transitions {g : Geometry} {p : Phase} {l n m : Nat} {s t : State} (h : StandsAt g p l s)
    (hp : p.beat < 4) (hl : l ≤ 624) (hx : transitions n s = some (t, m)) :
    ∃ q k, StandsAt g q k t ∧ q.beat = (p.beat + n) % 4 ∧ k ≤ 624 := by
  induction n generalizing p l m s with
  | zero =>
    cases hx
    exact ⟨p, l, h, (Nat.mod_eq_of_lt hp).symm, hl⟩
  | succ n ih =>
    obtain ⟨u, hu, hstands, -⟩ := h.transition hp
    have hbeat := Phase.beat_successor (p.lineAfter l) hp
    rw [transitions_succ hu, Option.map_eq_some_iff] at hx
    obtain ⟨⟨t', m'⟩, hrest, heq⟩ := hx
    cases heq
    obtain ⟨q, k, hq, hqbeat, hk⟩ := ih hstands (by omega) (p.lineAfter_le hl) hrest
    exact ⟨q, k, hq, by omega, hk⟩

/-! ### A line -/

/-- How many ticks a line lasts: the durations of its four transitions, the last two by the line's path (R173). -/
def lineTicks (g : Geometry) (l : Nat) : Nat :=
  let q := Phase.successor l .sync1End
  (g.duration l .sync1Start).toNat + (g.duration l .sync1End).toNat + (g.duration l q).toNat +
    (g.duration l (q.successor l)).toNat

/-- From its SYNC1_START a line takes four transitions, on either path, to the next line's. -/
theorem StandsAt.line_transitions {g : Geometry} {l : Nat} {s : State} (h : StandsAt g .sync1Start l s) :
    ∃ t, transitions 4 s = some (t, lineTicks g (nextLine l)) ∧ StandsAt g .sync1Start (nextLine l) t := by
  obtain ⟨t₁, hx₁, (h₁ : StandsAt g .sync1End (nextLine l) t₁), hd₁, -⟩ := h.transition (by decide)
  have hb₁ : Phase.sync1End.beat = 1 := rfl
  obtain ⟨t₂, hx₂, h₂, hd₂, hb₂⟩ := h₁.transition_in_line (by omega) (by omega)
  obtain ⟨t₃, hx₃, h₃, hd₃, hb₃⟩ := h₂.transition_in_line (by omega) (by omega)
  obtain ⟨t₄, hx₄, h₄, hd₄, hb₄⟩ := h₃.transition_in_line (by omega) (by omega)
  rw [(Phase.beat_eq_zero_iff _).1 (hb₄.trans (by omega))] at h₄
  have hx := transitions_append (transitions_append (transitions_append (transitions_one hx₁) (transitions_one hx₂))
    (transitions_one hx₃)) (transitions_one hx₄)
  rw [hd₁, hd₂, hd₃, hd₄] at hx
  exact ⟨t₄, hx, h₄⟩

theorem standsAt_sync1Start {s : State} (h : s.seq.phase = 0#3) : StandsAt s.geom .sync1Start (lineOf s) s :=
  ⟨rfl, h, rfl⟩

theorem nextLine_eq_mod {l : Nat} (hl : l ≤ 624) : nextLine l = (l + 1) % 625 := by
  unfold nextLine maxLine
  split <;> omega

/-- The lines of `n` cycles from a line on, with their ticks. -/
theorem StandsAt.lines {g : Geometry} {l : Nat} {s : State} (h : StandsAt g .sync1Start l s) (hl : l ≤ 624) (n : Nat) :
    ∃ t, transitions (4 * n) s = some (t, ∑ i ∈ Finset.Ico (l + 1) (l + 1 + n), lineTicks g (i % 625)) ∧
      StandsAt g .sync1Start ((l + n) % 625) t := by
  induction n with
  | zero => exact ⟨s, by simp [transitions], by rwa [Nat.add_zero, Nat.mod_eq_of_lt (by omega)]⟩
  | succ n ih =>
    obtain ⟨u, hu, hstands⟩ := ih
    obtain ⟨t, ht, hnext⟩ := hstands.line_transitions
    have hline : nextLine ((l + n) % 625) = (l + 1 + n) % 625 := by
      rw [nextLine_eq_mod (by omega)]
      omega
    rw [hline] at ht hnext
    refine ⟨t, ?_, by rwa [Nat.add_right_comm] at hnext⟩
    rw [Nat.mul_succ, transitions_append hu ht, ← Nat.add_assoc, Finset.sum_Ico_succ_top (by omega)]

/-- Settles O17: the beat is back at 0 after four transitions and not before, and 625 lines bring LINE back to its value. -/
theorem cycleClosure : Obligations.CycleClosure := by
  intro s hphase hline
  have h := standsAt_sync1Start hphase
  refine ⟨?_, fun k t n h1 h3 hx ht => ?_, ?_, fun k t n hx => ?_⟩
  · obtain ⟨t, ht, -, htphase, htline⟩ := h.line_transitions
    refine ⟨t, _, ht, htphase, ?_⟩
    rw [show t.seq.line.toNat = _ from htline, nextLine, maxLine, lineOf]
    split_ifs <;> omega
  · obtain ⟨q, l, ⟨-, hq, -⟩, hbeat, -⟩ := h.after_transitions (by decide) hline hx
    have h0 := (Phase.code_eq_zero_iff q).1 (hq.symm.trans ht)
    rw [Phase.beat] at hbeat
    omega
  · obtain ⟨t, ht, hstands⟩ := h.lines hline 625
    have hlt : lineOf s < 625 := Nat.lt_succ_of_le hline
    rw [Nat.add_mod_right, Nat.mod_eq_of_lt hlt] at hstands
    exact ⟨t, _, ht, h.seq_eq hstands⟩
  · obtain ⟨q, l, hq, -, hl⟩ := h.after_transitions (by decide) hline hx
    exact hq.line.trans_le hl

/-! ### The classes of lines -/

theorem lineTicks_of_vis (g : Geometry) {l : Nat} (hv : vis l = true) :
    lineTicks g l = g.dShortOn.toNat + g.dFrontPorch.toNat + g.dActive.toNat + g.dBackPorch.toNat := by
  simp [lineTicks, Phase.successor, Geometry.duration, hv]

theorem lineTicks_of_blank (g : Geometry) {l : Nat} (hv : vis l = false) :
    lineTicks g l =
      (if longSync1 l then g.dLongOn else g.dShortOn).toNat + (if longSync1 l then g.dLongOff else g.dShortOff).toNat +
        (if longSync2 l then g.dLongOn else g.dShortOn).toNat +
        (if longSync1 l then g.dLongOff else g.dShortOff).toNat := by
  rw [lineTicks, Geometry.duration_sync1Start_blank g hv]
  simp [Phase.successor, Geometry.duration, hv]

theorem Inv.visible_lineTicks {s : State} (h : Inv s) (hs : s.ctl.active = true) {l : Nat} (hv : vis l = true) :
    lineTicks s.geom l = s.geom.ticksPerLine.toNat := by
  obtain ⟨-, -, -, -, -, -, -, -, hsum⟩ := h.durations hs
  rw [lineTicks_of_vis _ hv, hsum]

theorem not_vis_of_longSync1 {l : Nat} (h : longSync1 l = true) : vis l = false := by
  rw [Bool.eq_false_iff]
  intro hv
  rw [(longSync_of_vis hv).1] at h
  cases h

/-- Settles O18: a line's four durations, by its class. -/
theorem lineLengths : Obligations.LineLengths := by
  intro s hphase hline
  obtain ⟨t, ht, -, -, htline⟩ := (standsAt_sync1Start hphase).line_transitions
  rw [← htline] at ht
  refine ⟨t, _, ht, fun hv => ⟨lineTicks_of_vis _ hv, fun hinv hs => hinv.visible_lineTicks hs hv⟩,
    fun hv h1 h2 => ?_, fun h1 h2 => ?_, fun hl => ?_, fun hl => ?_⟩
  · simp [lineTicks_of_blank, lineOf, hv, h1, h2]
    omega
  · simp [lineTicks_of_blank, lineOf, not_vis_of_longSync1 h1, h1, h2]
    omega
  · rw [lineOf, hl]
    exact lineTicks_of_blank _ (by decide)
  · rw [lineOf, hl]
    exact lineTicks_of_blank _ (by decide)

/-! ### A frame -/

/-- A cycle of `n` meets every remainder once, wherever it starts. -/
theorem sum_Ico_mod (f : Nat → Nat) (a n : Nat) : ∑ i ∈ Finset.Ico a (a + n), f (i % n) = ∑ i ∈ Finset.range n, f i :=
  calc ((Multiset.Ico a (a + n)).map fun i => f (i % n)).sum
    _ = (((Multiset.Ico a (a + n)).map (· % n)).map f).sum := by rw [Multiset.map_map]; rfl
    _ = ((Multiset.range n).map f).sum := by rw [Nat.multiset_Ico_map_mod]

theorem sum_lineTicks_of_vis (g : Geometry) {a b : Nat} (h : ∀ l ∈ Finset.Ico a b, vis l = true) :
    ∑ l ∈ Finset.Ico a b, lineTicks g l =
      (b - a) * (g.dShortOn.toNat + g.dFrontPorch.toNat + g.dActive.toNat + g.dBackPorch.toNat) := by
  rw [Finset.sum_congr rfl fun l hl => lineTicks_of_vis g (h l hl), Finset.sum_const, Nat.card_Ico, smul_eq_mul]

theorem vis_of_mem_field1 : ∀ l ∈ Finset.Ico 5 310, vis l = true := fun l hl => by
  rw [Finset.mem_Ico] at hl
  exact (vis_iff l).2 (by omega)

theorem vis_of_mem_field2 : ∀ l ∈ Finset.Ico 317 623, vis l = true := fun l hl => by
  rw [Finset.mem_Ico] at hl
  exact (vis_iff l).2 (by omega)

/-- The ticks of the 625 lines of a frame (R174): the two visible ranges by their length, the 14 blank lines around them one by
one. -/
theorem sum_lineTicks_frame {g : Geometry} (hshort : g.dShortOn = g.dLongOff) (hlong : g.dShortOff = g.dLongOn) :
    ∑ l ∈ Finset.range 625, lineTicks g l =
      611 * (g.dShortOn.toNat + g.dFrontPorch.toNat + g.dActive.toNat + g.dBackPorch.toNat) +
        28 * (g.dShortOn.toNat + g.dShortOff.toNat) := by
  rw [Finset.range_eq_Ico, ← Finset.sum_Ico_consecutive _ (Nat.zero_le 5) (by decide : 5 ≤ 625),
    ← Finset.sum_Ico_consecutive _ (by decide : 5 ≤ 310) (by decide : 310 ≤ 625),
    ← Finset.sum_Ico_consecutive _ (by decide : 310 ≤ 317) (by decide : 317 ≤ 625),
    ← Finset.sum_Ico_consecutive _ (by decide : 317 ≤ 623) (by decide : 623 ≤ 625),
    sum_lineTicks_of_vis g vis_of_mem_field1, sum_lineTicks_of_vis g vis_of_mem_field2]
  simp [Finset.sum_range_succ, Finset.sum_Ico_succ_top, lineTicks_of_blank, vis, longSync1, longSync2, ← hshort,
    ← hlong]
  omega

/-- Settles O19: a frame meets every line once, so its length is the sum of the lengths of the 625 lines. -/
theorem frameLength : Obligations.FrameLength := by
  intro s hinv hs hphase hshort hlong
  obtain ⟨-, -, -, -, -, -, -, -, hsum⟩ := hinv.durations hs
  obtain ⟨t, ht, -⟩ := (standsAt_sync1Start hphase).lines hinv.lineLegal 625
  rw [sum_Ico_mod, sum_lineTicks_frame hshort hlong, hsum] at ht
  exact ⟨t, ht⟩

end Machine
end Sys2Proof

/-! PROOF. Where a transfer is armed (42_scanline_transfer.md R200, R203): only the VID_START of a mapped line emits an Arm event
or sets DMA_CTRL.ACTIVE. -/

namespace Sys2Proof
namespace Machine

def TraceEvent.isArm : TraceEvent → Bool
  | .arm _ _ _ _ _ => true
  | .sync _ _ | .vmode _ _ | .pix _ _ _ | .lost _ _ | .cfg _ _ | .down _ | .halt _ | .fault _ _ => false

/-- From `s` to `t` no Arm event is emitted and no transfer comes into flight. -/
structure ArmsNothing (s t : State) : Prop where
  trace : ∃ new, t.trace = s.trace ++ new ∧ ∀ e ∈ new, e.isArm = false
  active : t.dma.active = true → s.dma.active = true

theorem ArmsNothing.silent {s t : State} (htrace : t.trace = s.trace) (hactive : t.dma.active = true → s.dma.active = true) :
    ArmsNothing s t :=
  ⟨⟨[], by simpa using htrace, by simp⟩, hactive⟩

theorem ArmsNothing.event {s t : State} {e : TraceEvent} (htrace : t.trace = s.trace ++ [e]) (he : e.isArm = false)
    (hactive : t.dma.active = true → s.dma.active = true) : ArmsNothing s t :=
  ⟨⟨[e], htrace, by simpa using he⟩, hactive⟩

/-- A step that is seen to arm a transfer is no step that arms nothing. -/
theorem ArmsNothing.not_armed {s t : State} (h : ArmsNothing s t) :
    ¬((∃ u line row' src len, TraceEvent.arm u line row' src len ∈ t.trace.drop s.trace.length) ∨
      (s.dma.active = false ∧ t.dma.active = true)) := by
  obtain ⟨⟨new, htrace, hquiet⟩, hactive⟩ := h
  rw [htrace, List.drop_left]
  rintro (⟨u, line, row', src, len, hmem⟩ | ⟨hidle, harmed⟩)
  · exact absurd (hquiet _ hmem) (by simp [TraceEvent.isArm])
  · rw [hactive harmed] at hidle
    cases hidle

theorem switchVideo_armsNothing (s : State) (m : VideoMode) : ArmsNothing s (switchVideo s m) := by
  by_cases hm : s.pins.videoMode = m
  · exact .silent (by simp [hm]) (by simp)
  · exact .event (e := .vmode s.now m) (by simp [hm]) rfl (by simp)

/-- VID_START of a line that is not mapped programs the timer and nothing else. -/
theorem execVidStart_unmapped {s : State} (h : mapped s.params (lineOf s) = false) :
    execVidStart s = .next (programTimer s s.geom.dActive .vidBackporch) := by
  simp [execVidStart, h]

/-- Settles O10: programming the timer is all of it. -/
theorem vidStartLeavesUnmappedLineBlank : Obligations.VidStartLeavesUnmappedLineBlank :=
  fun _ hm => execVidStart_unmapped hm

/-- Every transition but the VID_START of a mapped line arms nothing. -/
theorem transition_armsNothing {p : Phase} {s t : State} (h : exec p.toInstr s = .next t)
    (hp : ¬(p = .vidStart ∧ mapped s.params (lineOf s) = true)) : ArmsNothing s t := by
  cases p with
  | sync1Start | sync2Start | sync2End | reserved low =>
    cases h
    exact .event rfl rfl id
  | sync1End =>
    simp only [Phase.toInstr, exec, execSync1End] at h
    split at h <;> cases h <;> exact .event rfl rfl id
  | vidStart =>
    have hunmapped : mapped s.params (lineOf s) = false := by simpa using hp
    cases (execVidStart_unmapped hunmapped).symm.trans h
    exact .silent rfl id
  | vidBackporch =>
    cases h
    obtain ⟨htrace, hactive⟩ := switchVideo_armsNothing s .plain
    exact ⟨htrace, hactive⟩

theorem command_armsNothing {c : Command} {s t : State} (h : performCommand c s = .next t) : ArmsNothing s t := by
  cases performCommand_effect h with
  | failed st ht => exact ht ▸ .event rfl rfl id
  | started _ _ _ _ _ _ _ _ ht => exact ht ▸ .event rfl rfl fun hd => by cases hd
  | refused ht => exact ht ▸ .silent rfl id
  | cleared _ ht => exact ht ▸ .event rfl rfl fun hd => by cases hd
  | answered st v ht => exact ht ▸ .silent rfl id

/-- A byte step is one of a transfer in flight, and its event is a byte's. -/
theorem byte_armsNothing {s t : State} (h : execDmaByte s = .next t) : ArmsNothing s t := by
  obtain ⟨hd, -, -, -⟩ := execDmaByte_cases h
  refine .event (execDmaByte_trace h) ?_ fun _ => hd
  split <;> rfl

theorem ofCode_eq_vidStart_iff (c : BitVec 3) : Phase.ofCode c = .vidStart ↔ c = 2#3 := by
  revert c
  decide

/-- A TICK arms nothing, or it is the expiry that takes the VID_START of a mapped line (41_pulse_state_machine.md R161). -/
theorem tick_armsNothing {s t : State} (h : execTick s = .next t) :
    ArmsNothing s t ∨
      (mapped s.params (lineOf s) = true ∧ s.seq.phase = 2#3 ∧ s.tmr.ctrl.run = true ∧ s.tmr.count.toNat ≤ 1 ∧
        s.tmr.ctrl.irqEn = true) := by
  obtain ⟨-, rfl⟩ | ⟨-, -, rfl⟩ | ⟨-, -, -, rfl⟩ | ⟨hr, hleft, hirq, htr⟩ := execTick_cases h
  · exact .inl (.silent rfl id)
  · exact .inl (.silent rfl id)
  · exact .inl (.silent rfl id)
  · rw [takeTransition_eq] at htr
    by_cases hp : Phase.ofCode s.seq.phase = .vidStart ∧ mapped s.params (lineOf s) = true
    · obtain ⟨hphase, hmapped⟩ := hp
      exact .inr ⟨hmapped, (ofCode_eq_vidStart_iff _).1 hphase, hr, (ticksLeft_eq_zero_iff s).1 hleft, hirq⟩
    · obtain ⟨htrace, hactive⟩ := transition_armsNothing htr hp
      exact .inl ⟨htrace, hactive⟩

/-- Settles O24: every other instruction arms nothing. -/
theorem onlyVidStartArms : Obligations.OnlyVidStartArms := by
  intro i s t h harm
  have harms : ¬ArmsNothing s t := fun hn => hn.not_armed harm
  cases exec_effect h with
  | transition p hx =>
    by_cases hp : p = .vidStart ∧ mapped s.params (lineOf s) = true
    · obtain ⟨rfl, hmapped⟩ := hp
      exact ⟨hmapped, .inl rfl⟩
    · exact absurd (transition_armsNothing hx hp) harms
  | command c _ hx => exact absurd (command_armsNothing hx) harms
  | tick hx =>
    obtain hn | ⟨hmapped, hexpiry⟩ := tick_armsNothing hx
    · exact absurd hn harms
    · exact ⟨hmapped, .inr ⟨rfl, hexpiry⟩⟩
  | byte hx => exact absurd (byte_armsNothing hx) harms
  | halt _ ht => exact absurd (ht ▸ .event rfl rfl id) harms
  | write addr value _ ht => exact absurd (ht ▸ .silent rfl id) harms

end Machine
end Sys2Proof

/-! PROOF. THROUGHPUT_OK (42_scanline_transfer.md R210): a step that cuts no transfer short shows each byte it takes and loses
none, so on a run every armed row is shown whole. -/

namespace Sys2Proof
namespace Machine

/-! ### The row being shown, over one step -/

/-- The mode premise of R210: a transfer in flight has the pin in SERIAL mode. -/
def SerialInFlight (s : State) : Prop := s.dma.active = true → s.pins.videoMode = .serial

theorem SerialInFlight.of_idle {s : State} (h : s.dma.active = false) : SerialInFlight s := fun hd => by
  rw [h] at hd
  cases hd

theorem SerialInFlight.congr {s t : State} (h : SerialInFlight s) (hdma : t.dma = s.dma) (hpins : t.pins = s.pins) :
    SerialInFlight t := by
  rw [SerialInFlight, hdma, hpins]
  exact h

/-- From `s` to `t` the trace grows, and the bytes left of the row being shown, DMA_LEN, go down by exactly the bytes it shows. -/
def ShowsRow (s t : State) : Prop :=
  ∃ new, t.trace = s.trace ++ new ∧ bytesLeft s.dma.len.toNat new = some t.dma.len.toNat

theorem ShowsRow.silent {s t : State} (htrace : t.trace = s.trace) (hdma : t.dma = s.dma) : ShowsRow s t :=
  ⟨[], by simpa using htrace, by rw [hdma, bytesLeft_nil]⟩

theorem bytesLeft_singleton (left : Nat) (e : TraceEvent) : bytesLeft left [e] = eventLeft left e := by
  rw [bytesLeft]
  cases eventLeft left e <;> rfl

theorem ShowsRow.event {s t : State} {e : TraceEvent} (htrace : t.trace = s.trace ++ [e])
    (he : eventLeft s.dma.len.toNat e = some t.dma.len.toNat) : ShowsRow s t :=
  ⟨[e], htrace, (bytesLeft_singleton _ e).trans he⟩

theorem ShowsRow.trans {s u t : State} (h : ShowsRow s u) (h' : ShowsRow u t) : ShowsRow s t := by
  obtain ⟨new, htrace, hleft⟩ := h
  obtain ⟨new', htrace', hleft'⟩ := h'
  exact ⟨new ++ new', by rw [htrace', htrace, List.append_assoc], (bytesLeft_append hleft new').trans hleft'⟩

theorem ShowsRow.bytesLeft_drop {s t : State} (h : ShowsRow s t) :
    bytesLeft s.dma.len.toNat (t.trace.drop s.trace.length) = some t.dma.len.toNat := by
  obtain ⟨new, htrace, hleft⟩ := h
  rwa [htrace, List.drop_left]

/-- Where the bytes left are known, none was lost. -/
theorem lost_not_mem_of_bytesLeft {left left' : Nat} {new : List TraceEvent} (h : bytesLeft left new = some left') (u : Nat)
    (b : Byte) : TraceEvent.lost u b ∉ new := by
  intro hmem
  induction new generalizing left with
  | nil => cases hmem
  | cons e es ih =>
    rw [bytesLeft] at h
    cases he : eventLeft left e with
    | none =>
      rw [he] at h
      cases h
    | some m =>
      rw [he] at h
      obtain rfl | hmem := List.mem_cons.1 hmem
      · cases he
      · exact ih h hmem

/-! ### The steps -/

theorem switchVideo_showsRow {s : State} (h0 : s.dma.len = 0#14) (m : VideoMode) : ShowsRow s (switchVideo s m) := by
  by_cases hm : s.pins.videoMode = m
  · exact .silent (by simp [hm]) (by simp)
  · exact .event (e := .vmode s.now m) (by simp [hm]) (by simp [h0, eventLeft])

/-- An arm with no bytes left starts a row of BYTES_PER_ROW bytes (R201). -/
theorem armTransfer_showsRow {s : State} (h0 : s.dma.len = 0#14) : ShowsRow s (armTransfer s) := by
  refine .event (armTransfer_trace s) ?_
  rw [armTransfer_eq, h0]
  rfl

/-- An expiry with no transfer in flight breaks no row, and the transfer it may arm finds the pin switched to SERIAL. -/
theorem takeTransition_showsRow {s t : State} (h : Inv s) (hidle : s.dma.active = false)
    (hx : takeTransition s = .next t) : SerialInFlight t ∧ ShowsRow s t := by
  have h0 : s.dma.len = 0#14 := h.noTransfer hidle
  have pulse (level : Bool) : ShowsRow s (driveSync s level) := .event (driveSync_trace s level) (by simp [h0, eventLeft])
  obtain ⟨-, rfl⟩ | ⟨-, -, rfl⟩ | ⟨-, -, rfl⟩ | ⟨-, -, rfl⟩ | ⟨-, -, rfl⟩ | ⟨-, rfl⟩ | ⟨-, rfl⟩ | ⟨-, rfl⟩ :=
    takeTransition_cases hx h.phaseLegal
  case inr.inr.inr.inl =>
    exact ⟨fun _ => by simp, (switchVideo_showsRow h0 .serial).trans (armTransfer_showsRow (by simpa using h0))⟩
  case inr.inr.inr.inr.inl => exact ⟨.of_idle hidle, .silent rfl rfl⟩
  case inr.inr.inr.inr.inr.inl => exact ⟨.of_idle (by simpa using hidle), switchVideo_showsRow h0 .plain⟩
  all_goals exact ⟨.of_idle hidle, pulse _⟩

/-- A TICK shows nothing; one that cuts no transfer short takes its transition with none in flight. -/
theorem tick_showsRow {s t : State} (h : Inv s) (hserial : SerialInFlight s)
    (huncut : expires s = true → s.dma.active = false) (hx : execTick s = .next t) : SerialInFlight t ∧ ShowsRow s t := by
  obtain ⟨-, rfl⟩ | ⟨-, -, rfl⟩ | ⟨-, -, -, rfl⟩ | ⟨hr, hleft, -, htr⟩ := execTick_cases hx
  · exact ⟨hserial.congr rfl rfl, .silent rfl rfl⟩
  · exact ⟨hserial.congr rfl rfl, .silent rfl rfl⟩
  · exact ⟨hserial.congr rfl rfl, .silent rfl rfl⟩
  · exact takeTransition_showsRow (s := countTick s) h.countTick (huncut (by simp [expires, hr, hleft])) htr

/-- A command leaves the transfer alone, or it starts or ends a session with none in flight. -/
theorem command_showsRow {c : Command} {s t : State} (h : Inv s) (hserial : SerialInFlight s)
    (huncut : c = .teardown → s.dma.active = false) (hx : performCommand c s = .next t) :
    SerialInFlight t ∧ ShowsRow s t := by
  cases performCommand_effect hx with
  | failed st ht => exact ht ▸ ⟨hserial.congr rfl rfl, .event rfl rfl⟩
  | started _ _ _ idle _ _ _ _ ht =>
    obtain ⟨-, hidle, -⟩ := h.idle idle
    refine ht ▸ ⟨.of_idle rfl, .event rfl ?_⟩
    rw [h.noTransfer hidle]
    rfl
  | refused ht => exact ht ▸ ⟨hserial.congr rfl rfl, .silent rfl rfl⟩
  | cleared _ ht =>
    refine ht ▸ ⟨.of_idle rfl, .event rfl ?_⟩
    rw [h.noTransfer (huncut rfl)]
    rfl
  | answered st v ht => exact ht ▸ ⟨hserial.congr rfl rfl, .silent rfl rfl⟩

/-- A byte step with the pin in SERIAL mode shows its byte (R205). -/
theorem byte_showsRow {s t : State} (h : Inv s) (hserial : SerialInFlight s) (hx : execDmaByte s = .next t) :
    SerialInFlight t ∧ ShowsRow s t := by
  obtain ⟨hd, -, -, -⟩ := execDmaByte_cases hx
  have hmode := hserial hd
  obtain ⟨hpos, -⟩ := h.transfer hd
  obtain ⟨hlen, -, -⟩ := execDmaByte_dma hx (by rintro h0; simp [h0] at hpos)
  refine ⟨fun _ => (execDmaByte_pins hx).symm ▸ hmode, .event (execDmaByte_trace hx) ?_⟩
  rw [if_pos hmode, hlen, eventLeft, if_neg (by omega)]
  exact congrArg some (by bv_omega)

/-- THROUGHPUT_OK on the step of one instruction: where the step is an expiry or a TEARDOWN, no transfer is in flight. -/
structure CutsNoTransfer (i : Instr) (s : State) : Prop where
  expiry : i = .tick → expires s = true → s.dma.active = false
  teardown : commandOf i = some .teardown → s.dma.active = false

/-- An agent's step that cuts no transfer short. -/
theorem exec_showsRow {i : Instr} {s t : State} (h : Inv s) (hi : i.space ≠ .phase) (hserial : SerialInFlight s)
    (huncut : CutsNoTransfer i s) (hx : exec i s = .next t) : SerialInFlight t ∧ ShowsRow s t := by
  cases exec_effect hx with
  | transition p _ => exact absurd (by cases p <;> rfl) hi
  | command c hcommand hc => exact command_showsRow h hserial (fun e => huncut.teardown (e ▸ hcommand)) hc
  | tick htick => exact tick_showsRow h hserial (huncut.expiry rfl) htick
  | byte hbyte => exact byte_showsRow h hserial hbyte
  | halt _ ht => exact ht ▸ ⟨hserial.congr rfl rfl, .event rfl rfl⟩
  | write addr value _ ht => exact ht ▸ ⟨hserial.congr rfl rfl, .silent rfl rfl⟩

@[simp] theorem takeScheduled_dma (s : State) : (takeScheduled s).dma = s.dma := by
  rw [takeScheduled_frame]

@[simp] theorem takeScheduled_pins (s : State) : (takeScheduled s).pins = s.pins := by
  rw [takeScheduled_frame]

@[simp] theorem expires_takeScheduled (s : State) : expires (takeScheduled s) = expires s := by
  rw [takeScheduled_frame]
  rfl

/-- The only event that performs a command is the HOST_CMD that carries it (43_host_commands.md R230). -/
theorem hostCmd_of_commandOf {i : Instr} {c : Command} (hi : i.space = .evt) (hc : commandOf i = some c) :
    ∃ word0 word1, i = .hostCmd word0 word1 ∧ decodeCommand word0 word1 = c := by
  cases i with
  | hostCmd word0 word1 => exact ⟨word0, word1, rfl, Option.some.inj hc⟩
  | configure | teardown | rdreg | reservedCmd => cases hi
  | _ => cases hc

theorem throughputOk.cutsNoTransfer {s : State} {i : Instr} (h : throughputOk s) (hi : nextInstr s = .ok i) :
    CutsNoTransfer i (takeScheduled s) := by
  obtain ⟨hexpiry, hteardown⟩ := h
  constructor
  · rintro rfl hexp
    simpa using hexpiry hi (by simpa using hexp)
  · intro hc
    obtain ⟨word0, word1, rfl, hdecode⟩ := hostCmd_of_commandOf (space_of_nextInstr hi) hc
    simpa using hteardown word0 word1 hi hdecode

/-- A step under THROUGHPUT_OK keeps the mode premise and shows the bytes it takes off the row. -/
theorem step_showsRow {s t : State} (h : Inv s) (hserial : SerialInFlight s) (hok : throughputOk s)
    (hstep : step s = .next t) : SerialInFlight t ∧ ShowsRow s t := by
  obtain ⟨i, hi, hx⟩ := exec_of_step hstep (by simp)
  have hspace : i.space ≠ .phase := by
    rw [space_of_nextInstr hi]
    decide
  have hshows := exec_showsRow h.takeScheduled hspace (hserial.congr (by simp) (by simp)) (hok.cutsNoTransfer hi) hx
  simpa [ShowsRow] using hshows

/-- An agent's step that arms a transfer is an expiry (R200), so under THROUGHPUT_OK it supersedes none (R202). -/
theorem throughputOk.idle_of_arm {s t : State} (hok : throughputOk s) (hstep : step s = .next t)
    {u line row' src len : Nat} (harm : TraceEvent.arm u line row' src len ∈ t.trace.drop s.trace.length) :
    s.dma.active = false := by
  obtain ⟨i, hi, hx⟩ := exec_of_step hstep (by simp)
  obtain ⟨-, rfl | ⟨rfl, -, hr, hcount, -⟩⟩ :=
    onlyVidStartArms i _ t hx (.inl ⟨u, line, row', src, len, by simpa using harm⟩)
  · cases space_of_nextInstr hi
  · have hexp : expires (takeScheduled s) = true := by simp [expires, hr, (ticksLeft_eq_zero_iff _).2 hcount]
    simpa using (hok.cutsNoTransfer hi).expiry rfl hexp

/-- Settles O26: the bytes left account for every event of the step, a lost byte has no place among them, and what arms a
transfer is an expiry. -/
theorem throughputOkLosesNoByte : Obligations.ThroughputOkLosesNoByte := by
  intro s t hinv hserial hok hstep
  obtain ⟨hserial', hshows⟩ := step_showsRow hinv hserial hok hstep
  have hleft := hshows.bytesLeft_drop
  exact ⟨hserial', lost_not_mem_of_bytesLeft hleft, fun _ _ _ _ _ => hok.idle_of_arm hstep, hleft⟩

/-! ### A run -/

/-- A run under THROUGHPUT_OK shows the bytes it takes, whatever is left at its end. -/
theorem run_showsRow {n : Nat} {s t : State} (h : Inv s) (hserial : SerialInFlight s)
    (hok : throughout throughputOk n s) (hrun : stateAfter n s = some t) : Inv t ∧ ShowsRow s t := by
  induction n generalizing s with
  | zero =>
    cases hrun
    exact ⟨h, .silent rfl rfl⟩
  | succ n ih =>
    cases hstep : step s with
    | next u =>
      rw [stateAfter_succ hstep] at hrun
      obtain ⟨hnow, hrest⟩ := (throughout_succ hstep).1 hok
      obtain ⟨hserial', hshows⟩ := step_showsRow h hserial hnow hstep
      obtain ⟨hinv, hshows'⟩ := ih (stepKeepsInvariant s u h hstep) hserial' hrest hrun
      exact ⟨hinv, hshows.trans hshows'⟩
    | fault f => simp [stateAfter, hstep] at hrun
    | refused r => simp [stateAfter, hstep] at hrun

/-- Settles O27: at the end of the run no transfer is in flight, so no byte is left. -/
theorem throughputOkRunShowsWholeRows : Obligations.ThroughputOkRunShowsWholeRows := by
  rintro n s t hinv hserial ⟨hok, hend⟩ hrun
  obtain ⟨hinv', hshows⟩ := run_showsRow hinv hserial hok hrun
  have hleft := hshows.bytesLeft_drop
  obtain ⟨new, htrace, -⟩ := hshows
  rw [hinv'.noTransfer (hend t hrun)] at hleft
  exact ⟨⟨new, htrace.symm⟩, hleft⟩

end Machine
end Sys2Proof

/-! PROOF. The transfer engine's byte steps (42_scanline_transfer.md R204 to R207, R211): what one of them moves and leaves alone,
and the whole row after DMA_LEN of them. -/

namespace Sys2Proof
namespace Machine

/-! ### One byte -/

theorem dmaEnabled_iff (s : State) : dmaEnabled s = true ↔ s.dma.active = true ∧ s.ctl.fault.faulted = false := by
  simp [dmaEnabled]

/-- Settles O20: an enabled byte step completes or stops on its address, and is not refused. -/
theorem dmaByteEnabled : Obligations.DmaByteEnabled := by
  intro s
  rw [← dmaEnabled_iff]
  show execDmaByte s = _ ↔ _
  unfold execDmaByte
  split
  · split <;> simp [*]
  · simp [*]

/-- Settles O25: all that a byte step can write is the transfer registers, the trace and the model's own counters. -/
theorem engineOnlyReads : Obligations.EngineOnlyReads := by
  intro s t h
  rw [execDmaByte_frame h]
  exact ⟨rfl, rfl, rfl, rfl, rfl, rfl, rfl⟩

theorem execDmaByte_completes {s : State} (hd : s.dma.active = true) (hf : s.ctl.fault.faulted = false)
    (hin : s.dma.src.toNat < addressSpace s) : ∃ t, execDmaByte s = .next t :=
  ⟨_, by simp only [execDmaByte, (dmaEnabled_iff s).2 ⟨hd, hf⟩, inAddressSpace, hin]; rfl⟩

/-- DMA_SRC takes the next address where the address space has one (R205). -/
theorem execDmaByte_src {s t : State} (h : execDmaByte s = .next t) (hfit : s.dma.src.toNat + 1 < addressSpace s) :
    t.dma.src.toNat = s.dma.src.toNat + 1 := by
  obtain ⟨-, -, -, rfl⟩ := execDmaByte_cases h
  have hsrc : (BitVec.ofNat 32 (s.dma.src.toNat + 1)).toNat = s.dma.src.toNat + 1 :=
    Nat.mod_eq_of_lt (hfit.trans_le (addressSpace_le s))
  by_cases h0 : s.dma.len = 0#14 <;> simp [addressSpace_congr (shiftOut_params s _), hfit, h0, hsrc]

/-- The last byte of a transfer ends it; a count of 0 leaves it in flight (R205, log entry 8). -/
theorem execDmaByte_active {s t : State} (h : execDmaByte s = .next t) :
    t.dma.active = decide (s.dma.len.toNat ≠ 1) := by
  by_cases h0 : s.dma.len = 0#14
  · obtain ⟨hd, -, -, rfl⟩ := execDmaByte_cases h
    by_cases hfit : s.dma.src.toNat + 1 < addressSpace s <;>
      simp [addressSpace_congr (shiftOut_params s _), hfit, h0, hd]
  · obtain ⟨-, hactive, -⟩ := execDmaByte_dma h h0
    rw [hactive, Bool.eq_iff_iff]
    simp [← BitVec.toNat_inj]

/-- A free value is taken only for an address or a count the spec does not state (log entry 8). -/
theorem execDmaByte_draws {s t : State} (h : execDmaByte s = .next t) (hfit : s.dma.src.toNat + 1 < addressSpace s)
    (hlen : s.dma.len ≠ 0#14) : t.draws = s.draws := by
  obtain ⟨-, -, -, rfl⟩ := execDmaByte_cases h
  simp [addressSpace_congr (shiftOut_params s _), hfit, hlen]

/-- Settles O21: the registers of one byte step, and its frame. -/
theorem dmaByteMovesOneByte : Obligations.DmaByteMovesOneByte := by
  intro s hd hf hin
  obtain ⟨t, h⟩ := execDmaByte_completes hd hf hin
  have hne (h1 : 1 ≤ s.dma.len.toNat) : s.dma.len ≠ 0#14 := by rintro h0; simp [h0] at h1
  refine ⟨t.dma.src, t.dma.len, t.draws, t.gap, execDmaByte_src h, fun h1 => ?_, fun hfit h1 => ?_, ?_⟩
  · obtain ⟨hlen, -⟩ := execDmaByte_dma h (hne h1)
    rw [hlen]
    bv_omega
  · exact execDmaByte_draws h hfit (hne h1)
  · refine h.trans (congrArg _ ?_)
    rw [execDmaByte_frame h, execDmaByte_trace h, ← execDmaByte_active h]
    rfl

/-! ### The bytes of a row -/

/-- The event of byte `j` of the row whose transfer is in flight: shown or lost by the pin's mode (R205, R209). -/
def byteEvent (s : State) (j : Nat) : TraceEvent :=
  if s.pins.videoMode = .serial then .pix s.now (Memory.read s.mem (s.dma.src.toNat + j)) s.ctl.bitOrder
  else .lost s.now (Memory.read s.mem (s.dma.src.toNat + j))

/-- `t` is `s` with the next `k` bytes of its transfer moved, in address order. -/
structure BytesMoved (k : Nat) (s t : State) : Prop where
  active : t.dma.active = decide (k ≠ s.dma.len.toNat)
  len : t.dma.len.toNat = s.dma.len.toNat - k
  src : s.dma.src.toNat + k < addressSpace s → t.dma.src.toNat = s.dma.src.toNat + k
  trace : t.trace = s.trace ++ (List.range k).map (byteEvent s)
  frame : t = { s with dma := t.dma, trace := t.trace, draws := t.draws, gap := t.gap }

theorem bytesMoved_zero {s : State} (hd : s.dma.active = true) (h1 : 1 ≤ s.dma.len.toNat) : BytesMoved 0 s s where
  active := by rw [hd, eq_comm, decide_eq_true_iff]; omega
  len := rfl
  src := fun _ => rfl
  trace := by simp
  frame := rfl

/-- While bytes are left, a byte step moves the next one. -/
theorem BytesMoved.byte {k : Nat} {s u t : State} (h : BytesMoved k s u) (hk : k < s.dma.len.toNat)
    (hspace : s.dma.src.toNat + s.dma.len.toNat ≤ addressSpace s) (hx : execDmaByte u = .next t) :
    BytesMoved (k + 1) s t := by
  have hsrc := h.src (by omega)
  have hlen := h.len
  have hlenNext : t.dma.len.toNat = u.dma.len.toNat - 1 := by
    obtain ⟨hcount, -⟩ := execDmaByte_dma hx (by rintro h0; simp [h0] at hlen; omega)
    rw [hcount]
    bv_omega
  have hframe := h.frame
  constructor
  case active =>
    rw [execDmaByte_active hx, hlen, decide_eq_decide]
    omega
  case len => omega
  case src =>
    intro hfit
    have hparams : u.params = s.params := by rw [hframe]
    rw [execDmaByte_src hx (by rw [addressSpace_congr hparams]; omega), hsrc, Nat.add_assoc]
  case trace =>
    rw [execDmaByte_trace hx, h.trace, List.range_succ, List.map_append, List.append_assoc]
    rw [memRead, hsrc, hframe]
    rfl
  case frame =>
    rw [execDmaByte_frame hx, hframe]

/-- A transfer left alone moves its bytes one step at a time (R207). -/
theorem execAll_bytes {s : State} (hd : s.dma.active = true) (hf : s.ctl.fault.faulted = false)
    (h1 : 1 ≤ s.dma.len.toNat) (hspace : s.dma.src.toNat + s.dma.len.toNat ≤ addressSpace s) {k : Nat}
    (hk : k ≤ s.dma.len.toNat) :
    ∃ t, execAll (List.replicate k .dmaByte) s = .next t ∧ BytesMoved k s t := by
  induction k with
  | zero => exact ⟨s, rfl, bytesMoved_zero hd h1⟩
  | succ k ih =>
    obtain ⟨u, hu, hmoved⟩ := ih (by omega)
    obtain ⟨t, ht⟩ : ∃ t, execDmaByte u = .next t := by
      have hsrc := hmoved.src (by omega)
      have hactive := hmoved.active
      have hframe := hmoved.frame
      refine execDmaByte_completes (hactive.trans (decide_eq_true (by omega))) (by rw [hframe]; exact hf) ?_
      rw [addressSpace_congr (show u.params = s.params by rw [hframe]), hsrc]
      omega
    exact ⟨t, by rw [List.replicate_succ', execAll_append_single hu]; exact ht, hmoved.byte hk hspace ht⟩

/-- Settles O22: all DMA_LEN bytes are moved, and with the transfer ended no byte step is enabled. -/
theorem transferCompletes : Obligations.TransferCompletes := by
  intro s hd hf h1 hspace
  obtain ⟨t, ht, hmoved⟩ := execAll_bytes hd hf h1 hspace le_rfl
  have hactive : t.dma.active = false := by simp [hmoved.active]
  have hlen : t.dma.len = 0#14 := BitVec.eq_of_toNat_eq (by simp [hmoved.len])
  exact ⟨t, ht, hactive, hlen, hmoved.src, hmoved.trace, (dmaByteEnabled t).2 (by simp [hactive]), hmoved.frame⟩

/-! ### The pixels of a row -/

/-- Items by the place of their group and their place in it. -/
theorem flatMap_range_map_range {α : Type} (f : Nat → Nat → α) (m n : Nat) (hm : 0 < m) :
    ((List.range n).flatMap fun j => (List.range m).map (f j)) = (List.range (m * n)).map fun x => f (x / m) (x % m) := by
  induction n with
  | zero => rfl
  | succ n ih =>
    rw [List.range_succ, List.flatMap_append, ih, Nat.mul_succ, List.range_add, List.map_append, List.flatMap_singleton,
      List.map_map]
    refine congrArg _ (List.map_congr_left fun k hk => ?_)
    have hk : k < m := List.mem_range.1 hk
    simp [Nat.mul_add_div hm, Nat.div_eq_of_lt hk, Nat.mod_eq_of_lt hk]

/-- A byte shown is its eight pixels (R206). -/
theorem shownPixels_byteEvent {s : State} (hm : s.pins.videoMode = .serial) (j : Nat) :
    shownPixels (byteEvent s j) =
      (List.range 8).map (pixel s.ctl.bitOrder (Memory.read s.mem (s.dma.src.toNat + j))) := by
  rw [byteEvent, if_pos hm]
  rfl

/-- Settles O23: the picture grows by the eight pixels of each byte of the row, byte after byte. -/
theorem rowPixelOrder : Obligations.RowPixelOrder := by
  intro s t hd hf h1 hspace hm hx
  obtain ⟨t', ht, hmoved⟩ := execAll_bytes hd hf h1 hspace le_rfl
  cases hx.symm.trans ht
  rw [hmoved.trace, picture_append]
  refine congrArg _ ?_
  calc picture ((List.range s.dma.len.toNat).map (byteEvent s))
    _ = (List.range s.dma.len.toNat).flatMap fun j =>
          (List.range 8).map (pixel s.ctl.bitOrder (Memory.read s.mem (s.dma.src.toNat + j))) := by
        rw [picture, List.flatMap_map]
        simp only [shownPixels_byteEvent hm]
    _ = _ := by
        rw [flatMap_range_map_range _ 8 _ (by decide)]
        simp only [pixel_eq]

end Machine
end Sys2Proof

/-! PROOF. CONFIGURE (43_host_commands.md R231 to R235, R243): its checks in their order, the rate check and its threshold, the
registers of the session it starts, and that two CONFIGUREs alike start sessions alike. -/

namespace Sys2Proof
namespace Machine

/-! ### The provider's answer -/

theorem providedBase_eq_some_iff (s : State) (w h : BitVec 16) (base : Word) :
    providedBase s w h = some base ↔ s.answers.fb = some base ∧ base.toNat + bufferBytes w h ≤ addressSpace s := by
  unfold providedBase
  split
  next hfb => simp [hfb]
  next b hfb =>
    simp only [Option.ite_none_right_eq_some, hfb, Option.some.injEq]
    constructor
    · rintro ⟨hfits, rfl⟩
      exact ⟨rfl, hfits⟩
    · rintro ⟨rfl, hfits⟩
      exact ⟨hfits, rfl⟩

/-- An answer whose buffer does not fit counts as FAIL (R232). -/
theorem providedBase_eq_none {s : State} {w h : BitVec 16}
    (hfail : s.answers.fb = none ∨ ∃ base, s.answers.fb = some base ∧ addressSpace s < base.toNat + bufferBytes w h) :
    providedBase s w h = none := by
  rw [Option.eq_none_iff_forall_ne_some]
  intro base hbase
  obtain ⟨hfb, hfits⟩ := (providedBase_eq_some_iff s w h base).1 hbase
  obtain hnone | ⟨b, hb, hout⟩ := hfail
  · simp [hnone] at hfb
  · cases hb.symm.trans hfb
    omega

/-! ### The checks -/

section Checks

variable {vpin spin : BitVec 8} {bitord : Bool} {w h : BitVec 16} {s : State}

theorem execConfigure_faulted (hf : s.ctl.fault.faulted = true) :
    execConfigure vpin spin bitord w h s = .next (failConfigure s .faulted) := if_pos hf

theorem execConfigure_busy (hf : s.ctl.fault.faulted = false) (ha : s.ctl.active = true) :
    execConfigure vpin spin bitord w h s = .next (failConfigure s .busy) := by
  simp [execConfigure, hf, ha]

theorem execConfigure_badArgument (hf : s.ctl.fault.faulted = false) (ha : s.ctl.active = false)
    (hargs : w = 0#16 ∨ h = 0#16 ∨ vpin = spin) :
    execConfigure vpin spin bitord w h s = .next (failConfigure s .badArgument) := by
  simp [execConfigure, hf, ha, hargs]

/-- Checks 2 to 4 pass: the block is unfaulted and idle, and the arguments are good (R232). -/
structure AsksProvider (vpin spin : BitVec 8) (w h : BitVec 16) (s : State) : Prop where
  unfaulted : s.ctl.fault.faulted = false
  idle : s.ctl.active = false
  width : w ≠ 0#16
  height : h ≠ 0#16
  pins : vpin ≠ spin

theorem execConfigure_fbAllocFailed (hask : AsksProvider vpin spin w h s) (hfb : providedBase s w h = none) :
    execConfigure vpin spin bitord w h s = .next (failConfigure s .fbAllocFailed) := by
  simp [execConfigure, hask.unfaulted, hask.idle, hask.width, hask.height, hask.pins, hfb]

theorem execConfigure_timerUnavailable {base : Word} (hask : AsksProvider vpin spin w h s)
    (hfb : providedBase s w h = some base) (htimer : s.answers.timer = none) :
    execConfigure vpin spin bitord w h s = .next (failConfigure s .timerUnavailable) := by
  simp [execConfigure, hask.unfaulted, hask.idle, hask.width, hask.height, hask.pins, hfb, htimer]

theorem execConfigure_badRate {base f : Word} (hask : AsksProvider vpin spin w h s)
    (hfb : providedBase s w h = some base) (htimer : s.answers.timer = some f)
    (hrate : rateOk s.params (ticksPerLineOf f) = false) :
    execConfigure vpin spin bitord w h s = .next (failConfigure s .badRate) := by
  simp [execConfigure, hask.unfaulted, hask.idle, hask.width, hask.height, hask.pins, hfb, htimer, hrate]

theorem execConfigure_starts {base f : Word} (hask : AsksProvider vpin spin w h s)
    (hfb : providedBase s w h = some base) (htimer : s.answers.timer = some f)
    (hrate : rateOk s.params (ticksPerLineOf f) = true) :
    execConfigure vpin spin bitord w h s = .next (startSession s vpin spin bitord w h base (ticksPerLineOf f)) := by
  simp [execConfigure, hask.unfaulted, hask.idle, hask.width, hask.height, hask.pins, hfb, htimer, hrate]

end Checks

/-- Settles O30: one equation of CONFIGURE for each check that fails. -/
theorem configureChecksInOrder : Obligations.ConfigureChecksInOrder := by
  intro vpin spin bitord w h s failWith hfail
  have ends {st : Status} (hx : execConfigure vpin spin bitord w h s = .next (failConfigure s st)) :
      exec (.configure vpin spin bitord w h) s = failWith st := hx.trans (hfail st).symm
  refine ⟨fun hf => ends (execConfigure_faulted hf), fun hf ha => ends (execConfigure_busy hf ha),
    fun hf ha hargs => ends (execConfigure_badArgument hf ha hargs), fun hf ha hw hh hpins => ?_⟩
  have hask : AsksProvider vpin spin w h s := ⟨hf, ha, hw, hh, hpins⟩
  refine ⟨fun hno => ends (execConfigure_fbAllocFailed hask (providedBase_eq_none hno)), fun base hfb hfits => ?_⟩
  have hbase : providedBase s w h = some base := (providedBase_eq_some_iff s w h base).2 ⟨hfb, hfits⟩
  exact ⟨fun htimer => ends (execConfigure_timerUnavailable hask hbase htimer),
    fun f htimer hrate => ends (execConfigure_badRate hask hbase htimer hrate)⟩

/-! ### The rate check -/

/-- With the default numerators the shortest durations are 5 of 64 ticks, so 13 ticks a line are the fewest (R234). -/
theorem rateOk_default_iff {p : Params} (hShortOn : p.kShortOn = 5) (hShortOff : p.kShortOff = 27) (hLongOn : p.kLongOn = 27)
    (hLongOff : p.kLongOff = 5) (hFrontPorch : p.kFrontPorch = 8) (hBackPorch : p.kBackPorch = 7) (t : Nat) :
    rateOk p t = true ↔ 13 ≤ t := by
  have h5 : ((5 : Fin 65) : Nat) = 5 := rfl
  have h7 : ((7 : Fin 65) : Nat) = 7 := rfl
  have h8 : ((8 : Fin 65) : Nat) = 8 := rfl
  have h27 : ((27 : Fin 65) : Nat) = 27 := rfl
  simp only [rateOk_iff, porchTicks, durationOf, lineFractionDenom, hShortOn, hShortOff, hLongOn, hLongOff, hFrontPorch,
    hBackPorch, h5, h7, h8, h27]
  omega

/-- Settles O31: the check by its own law, and 13 ticks a line are 13 * 15 625 Hz. -/
theorem rateCheck : Obligations.RateCheck := by
  refine ⟨rateOk_iff, fun p f h1 h2 h3 h4 h5 h6 => ?_⟩
  rw [rateOk_default_iff h1 h2 h3 h4 h5 h6]
  omega

/-! ### The session -/

theorem toNat_ofNat_widthPxOf (w : BitVec 16) : (BitVec.ofNat 17 (widthPxOf w)).toNat = widthPxOf w := by
  have := bytesPerRowOf_le w
  refine Nat.mod_eq_of_lt ?_
  unfold widthPxOf pixelsPerByte
  omega

theorem toNat_ofNat_bytesPerRowOf (w : BitVec 16) : (BitVec.ofNat 14 (bytesPerRowOf w)).toNat = bytesPerRowOf w :=
  Nat.mod_eq_of_lt ((bytesPerRowOf_le w).trans_lt (by decide))

theorem toNat_ofNat_bufferBytes (w h : BitVec 16) : (BitVec.ofNat 29 (bufferBytes w h)).toNat = bufferBytes w h :=
  Nat.mod_eq_of_lt (bufferBytes_lt w h)

theorem toNat_ofNat_ticksPerLineOf (f : Word) : (BitVec.ofNat 32 (ticksPerLineOf f)).toNat = ticksPerLineOf f :=
  Nat.mod_eq_of_lt (ticksPerLineOf_lt f)

theorem toNat_ofNat_initLine (p : Params) : (BitVec.ofNat 10 p.initLine.val).toNat = p.initLine.val :=
  Nat.mod_eq_of_lt (p.initLine.isLt.trans (by decide))

theorem BitOrder.ofBit_eq_ite (b : Bool) : BitOrder.ofBit b = if b then .lsbFirst else .msbFirst := by
  cases b <;> rfl

/-- Settles O32: no value is cut, since the width, the buffer and the ticks of a line each fit their registers. -/
theorem configureStartsSession : Obligations.ConfigureStartsSession := by
  rintro vpin spin bitord w h s base f _ hf ha hw hh hpins hfb hfits htimer rfl hrate
  have hbase : providedBase s w h = some base := (providedBase_eq_some_iff s w h base).2 ⟨hfb, hfits⟩
  have ht := ticksPerLineOf_lt f
  have hT := toNat_ofNat_ticksPerLineOf f
  obtain ⟨-, -, -, -, -, -, -, -, hsum⟩ := sessionGeometry_durations (w := w) (h := h) ht hrate
  refine ⟨_, execConfigure_starts ⟨hf, ha, hw, hh, hpins⟩ hbase htimer hrate, toNat_ofNat_widthPxOf w,
    toNat_ofNat_bytesPerRowOf w, rfl, rfl, toNat_ofNat_bufferBytes w h, hT, toNat_ofNat_durationOf ht _,
    toNat_ofNat_durationOf ht _, toNat_ofNat_durationOf ht _, toNat_ofNat_durationOf ht _, toNat_ofNat_durationOf ht _,
    toNat_ofNat_durationOf ht _, ?_, rfl, rfl, rfl, toNat_ofNat_initLine s.params, hT, hT, rfl, ?_, rfl⟩
  · refine Eq.trans ?_ (hsum.trans hT)
    simp only [startSession, answer_geom, emit_geom, setStatus_geom]
    omega
  · rw [← BitOrder.ofBit_eq_ite]
    rfl

/-- A CONFIGURE that leaves a session where there was none has started it (R233). -/
theorem execConfigure_started {vpin spin : BitVec 8} {bitord : Bool} {w h : BitVec 16} {s t : State}
    (hx : execConfigure vpin spin bitord w h s = .next t) (idle : s.ctl.active = false) (ht : t.ctl.active = true) :
    ∃ base f, s.answers.fb = some base ∧ s.answers.timer = some f ∧
      t = startSession s vpin spin bitord w h base (ticksPerLineOf f) := by
  obtain ⟨st, -, rfl⟩ | ⟨base, f, -, -, -, -, -, hbase, htimer, -, rfl⟩ := execConfigure_cases hx
  · rw [failConfigure_ctl] at ht
    cases idle.symm.trans ht
  · exact ⟨base, f, ((providedBase_eq_some_iff s w h base).1 hbase).1, htimer, rfl⟩

/-- Settles O36: both start a session, and what the two sessions share is a function of the geometry, the bit order, the frequency
and the parameters. -/
theorem configureIsIdempotent : Obligations.ConfigureIsIdempotent := by
  intro vpin spin vpin' spin' bitord w h s s' t t' idle idle' hparams htimers hx hx' ht ht'
  obtain ⟨base, f, hfb, htimer, rfl⟩ := execConfigure_started hx idle ht
  obtain ⟨base', f', hfb', htimer', rfl⟩ := execConfigure_started hx' idle' ht'
  cases htimer.symm.trans (htimers.trans htimer')
  simp [startSession, hparams, hfb, hfb', sessionPins]

end Machine
end Sys2Proof

/-! PROOF. The other commands (43_host_commands.md R230, R236 to R238): RDREG against the register table of 10_state.md R49,
TEARDOWN, the reserved words, and that every command is answered. -/

namespace Sys2Proof
namespace Machine

/-! ### The register file -/

theorem TmrCtrl.toNat_bits (c : TmrCtrl) : c.bits.toNat = c.run.toNat + 2 * c.irqEn.toNat := by
  obtain ⟨run, irqEn⟩ := c
  revert run irqEn
  decide

theorem Pins.toNat_stateBits (p : Pins) :
    p.stateBits.toNat = p.syncLevel.toNat + 2 * p.syncDriven.toNat + (if p.videoMode = .serial then 4 else 0) +
      8 * p.videoDriven.toNat + 16 * p.videoLevel.toNat := by
  have hmode : (if p.videoMode = .serial then 4 else 0) = p.videoMode.bit.toNat * 4 := by
    cases p.videoMode <;> rfl
  have := p.syncLevel.toNat_le
  have := p.syncDriven.toNat_le
  have := p.videoMode.bit.toNat_le
  have := p.videoDriven.toNat_le
  have := p.videoLevel.toNat_le
  rw [hmode, Pins.stateBits, BitVec.toNat_ofNat]
  omega

theorem Pins.toNat_idBits (p : Pins) : p.idBits.toNat = p.vpin.toNat + 256 * p.spin.toNat := by
  rw [Pins.idBits, BitVec.toNat_ofNat]
  omega

theorem BitOrder.toNat_bit (o : BitOrder) : o.bit.toNat = if o = .lsbFirst then 1 else 0 := by
  cases o <;> rfl

theorem FaultReg.toNat_bits (f : FaultReg) : f.bits.toNat = f.faulted.toNat + 16 * f.reason.toNat := by
  have := f.faulted.toNat_le
  rw [FaultReg.bits, BitVec.toNat_ofNat]
  omega

/-- The values of the registers, in the order of R49's table. -/
def registerFile (s : State) : List Nat :=
  [s.ctl.status.toNat, s.ctl.active.toNat, s.seq.phase.toNat, s.seq.line.toNat,
    s.geom.widthPx.toNat, s.geom.bytesPerRow.toNat, s.geom.height.toNat, s.geom.ticksPerLine.toNat,
    s.geom.dShortOn.toNat, s.geom.dShortOff.toNat, s.geom.dLongOn.toNat, s.geom.dLongOff.toNat,
    s.geom.dFrontPorch.toNat, s.geom.dBackPorch.toNat, s.geom.dActive.toNat, s.fb.base.toNat,
    s.tmr.period.toNat, s.tmr.count.toNat, s.tmr.ctrl.run.toNat + 2 * s.tmr.ctrl.irqEn.toNat,
    s.pins.syncLevel.toNat + 2 * s.pins.syncDriven.toNat + (if s.pins.videoMode = .serial then 4 else 0) +
      8 * s.pins.videoDriven.toNat + 16 * s.pins.videoLevel.toNat,
    s.dma.src.toNat, s.dma.len.toNat, s.dma.active.toNat, s.pins.vpin.toNat + 256 * s.pins.spin.toNat,
    (if s.ctl.bitOrder = .lsbFirst then 1 else 0), s.ctl.fault.faulted.toNat + 16 * s.ctl.fault.reason.toNat,
    s.fb.size.toNat]

/-- Numbers past the table's end are reserved (R50). -/
theorem readRegister_reserved (s : State) {regno : BitVec 8} (h : 0x1B ≤ regno.toNat) : readRegister s regno = none := by
  unfold readRegister
  split
  case h_28 => rfl
  all_goals omega

/-- A register read answers the entry of the register file at that number, zero-extended (R49). -/
theorem readRegister_eq (s : State) (regno : BitVec 8) :
    readRegister s regno = (registerFile s)[regno.toNat]?.map (BitVec.ofNat 32) := by
  obtain hlt | hge := Nat.lt_or_ge regno.toNat 27
  · unfold readRegister registerFile
    generalize regno.toNat = k at hlt
    interval_cases k <;>
      simp [← BitVec.toNat_inj, TmrCtrl.toNat_bits, Pins.toNat_stateBits, Pins.toNat_idBits, BitOrder.toNat_bit,
        FaultReg.toNat_bits]
  · rw [readRegister_reserved s hge, List.getElem?_eq_none hge, Option.map_none]

/-- Settles O34: the read is the table's entry, and a number past the table is reserved. -/
theorem rdregAnswersRegister : Obligations.RdregAnswersRegister := by
  rintro s regno _ rfl
  refine ⟨fun v hv => ?_, fun hreserved => ?_⟩
  · have hread : readRegister s regno = some (BitVec.ofNat 32 v) :=
      (readRegister_eq s regno).trans (congrArg (Option.map (BitVec.ofNat 32)) hv)
    simp only [exec, execRdreg, hread]
    rfl
  · simp only [exec, execRdreg, readRegister_reserved s hreserved]
    rfl

/-! ### TEARDOWN -/

/-- Every register but FAULT reads 0 in a cleared block (R236). -/
theorem readRegister_cleared {t : State} (hseq : t.seq = .reset) (hgeom : t.geom = .reset) (hfb : t.fb = .reset)
    (htmr : t.tmr = .reset) (hpins : t.pins = .reset) (hdma : t.dma = .reset) {f : FaultReg}
    (hctl : t.ctl = { Control.reset with fault := f }) {r : BitVec 8} (hr : r.toNat ≤ 0x1A) (hfault : r ≠ 0x19#8) :
    readRegister t r = some 0#32 := by
  have hfile : registerFile t = List.replicate 25 0 ++ [f.faulted.toNat + 16 * f.reason.toNat, 0] := by
    rw [registerFile, hseq, hgeom, hfb, htmr, hpins, hdma, hctl]
    rfl
  have hne : r.toNat ≠ 25 := fun h => hfault (BitVec.eq_of_toNat_eq h)
  obtain hlt | hlast : r.toNat < 25 ∨ r.toNat = 26 := by omega
  · rw [readRegister_eq, hfile, List.getElem?_append_left (by simpa using hlt), List.getElem?_replicate_of_lt hlt]
    rfl
  · simp [readRegister_eq, hfile, hlast]

theorem execTeardown_faulted {s : State} (hf : s.ctl.fault.faulted = true) :
    execTeardown s = .next (answer (setStatus s .faulted) .faulted 0#32) := if_pos hf

theorem execTeardown_clears {s : State} (hf : s.ctl.fault.faulted = false) :
    execTeardown s = .next (answer (emit (clearRegisters s) (.down s.now)) .ok 0#32) := by
  simp [execTeardown, hf]

/-- Settles O33: refused or cleared, by FAULT. -/
theorem teardownResult : Obligations.TeardownResult := by
  intro s
  refine ⟨execTeardown_faulted, fun hf => ⟨_, execTeardown_clears hf, fun r hr hfault => ?_, rfl, rfl⟩⟩
  exact readRegister_cleared rfl rfl rfl rfl rfl rfl rfl hr hfault

/-! ### The reserved words -/

/-- R108 in the numbers of a word's fields: another opcode, or one of the three with a reserved bit set. -/
theorem isReservedWord_iff (w : Word) :
    isReservedWord w = true ↔
      (w.toNat / 2 ^ 24 ≠ 1 ∧ w.toNat / 2 ^ 24 ≠ 2 ∧ w.toNat / 2 ^ 24 ≠ 3) ∨
      (w.toNat / 2 ^ 24 = 1 ∧ w.toNat / 2 % 2 ^ 7 ≠ 0) ∨
      (w.toNat / 2 ^ 24 = 2 ∧ w.toNat % 2 ^ 24 ≠ 0) ∨
      (w.toNat / 2 ^ 24 = 3 ∧ w.toNat / 2 ^ 8 % 2 ^ 16 ≠ 0) := by
  simp only [isReservedWord, Bool.and_eq_true, Bool.not_eq_true', ← Bool.not_eq_true, isConfigureWord_iff,
    isTeardownWord_iff, isRdregWord_iff, ← BitVec.toNat_inj, BitVec.toNat_ofNat]
  omega

/-- Settles O35: such a word matches no other row, so the decoder gives the reserved command. -/
theorem reservedCommandIsRejected : Obligations.ReservedCommandIsRejected := by
  intro word0 word1 s
  refine ⟨rfl, fun hreserved => ?_⟩
  have hdecode : decodeCommand word0 word1 = .reservedCmd word0 :=
    (decodeCommand_eq_reservedCmd_iff ..).2 ⟨(isReservedWord_iff word0).2 hreserved, rfl⟩
  refine (execHostCmd_eq word0 word1 s).trans ?_
  rw [hdecode]
  rfl

/-! ### Every command is answered -/

/-- No command stops the block: each ends in a next state (R230). -/
theorem performCommand_next (c : Command) (s : State) : ∃ t, performCommand c s = .next t := by
  cases c with
  | configure vpin spin bitord w h =>
    simp only [performCommand, execConfigure]
    repeat' split
    all_goals exact ⟨_, rfl⟩
  | teardown =>
    simp only [performCommand, execTeardown]
    split <;> exact ⟨_, rfl⟩
  | rdreg regno =>
    simp only [performCommand, execRdreg]
    split <;> exact ⟨_, rfl⟩
  | reservedCmd word0 => exact ⟨_, rfl⟩

/-- However a command ends, it has put one answer on the port (R109). -/
theorem command_answers {c : Command} {s t : State} (h : performCommand c s = .next t) :
    ∃ r, t.results = s.results ++ [r] := by
  cases performCommand_effect h with
  | failed st ht => exact ⟨_, by rw [ht, failConfigure_results]⟩
  | started base f _ _ _ _ _ _ ht => exact ⟨_, by rw [ht]; rfl⟩
  | refused ht => exact ⟨_, by rw [ht, answer_results, setStatus_results]⟩
  | cleared _ ht => exact ⟨_, by rw [ht, answer_results, emit_results, clearRegisters_results]⟩
  | answered st v ht => exact ⟨_, by rw [ht, answer_results]⟩

/-- Settles O29: the decoded command completes, and however it ends it has answered. -/
theorem hostCmdIsAlwaysAnswered : Obligations.HostCmdIsAlwaysAnswered := by
  intro word0 word1 s
  refine ⟨execHostCmd_eq word0 word1 s, ?_⟩
  obtain ⟨t, ht⟩ := performCommand_next (decodeCommand word0 word1) s
  obtain ⟨r, hr⟩ := command_answers ht
  exact ⟨t, r, ht, hr⟩

end Machine
end Sys2Proof

/-! PROOF. The host's other events (43_host_commands.md R240, R241): EXT_HALT, what a stopped timer freezes (60_exceptions.md
R275), and HOST_WRITE. -/

namespace Sys2Proof
namespace Machine

/-! ### EXT_HALT -/

/-- Settles O38: the step where the timer runs, and the refusal where it does not. -/
theorem extHaltResult : Obligations.ExtHaltResult := by
  intro s
  refine ⟨fun hr => if_pos hr, fun hr => ?_⟩
  simp [exec, execExtHalt, hr]

/-! ### A stopped timer -/

/-- Ticks of a stopped timer only count (R160). -/
theorem execAll_ticks_stopped {s : State} (hr : s.tmr.ctrl.run = false) (n : Nat) :
    execAll (List.replicate n .tick) s = .next { s with now := s.now + n } := by
  induction n with
  | zero => rfl
  | succ n ih =>
    rw [List.replicate_succ', execAll_append_single ih]
    exact execTick_stopped hr

/-- While the timer is stopped, an agent's step that is no CONFIGURE and no TEARDOWN leaves PHASE, LINE and the pins (R275). -/
theorem exec_stopped_frame {i : Instr} {s t : State} (hr : s.tmr.ctrl.run = false) (h : exec i s = .next t)
    (hi : i.space ≠ .phase) (hconfigure : ∀ vpin spin bitord w h, commandOf i ≠ some (.configure vpin spin bitord w h))
    (hteardown : commandOf i ≠ some .teardown) : t.seq = s.seq ∧ t.pins = s.pins := by
  cases exec_effect h with
  | transition p _ => exact absurd (by cases p <;> rfl) hi
  | command c hc hx =>
    cases performCommand_effect hx with
    | failed | started => exact absurd hc (hconfigure _ _ _ _ _)
    | refused | cleared => exact absurd hc hteardown
    | answered st v ht => exact ht ▸ ⟨rfl, rfl⟩
  | tick hx =>
    cases (execTick_stopped hr).symm.trans hx
    exact ⟨rfl, rfl⟩
  | byte hx =>
    rw [execDmaByte_frame hx]
    exact ⟨rfl, rfl⟩
  | halt hrun _ => cases hr.symm.trans hrun
  | write addr value _ ht => exact ht ▸ ⟨rfl, rfl⟩

/-- No transition starts a stopped timer: TMR_CTRL is written by the fault alone (41_pulse_state_machine.md R163 to R169). -/
theorem transition_starts_no_timer (p : Phase) {s t : State} (h : exec p.toInstr s = .next t)
    (hrun : t.tmr.ctrl.run = true) : s.tmr.ctrl.run = true := by
  cases p with
  | sync1End =>
    simp only [Phase.toInstr, exec, execSync1End] at h
    split at h <;> (cases h; exact hrun)
  | vidStart =>
    cases h
    cases hm : mapped s.params (lineOf s) <;> simpa [hm] using hrun
  | sync1Start | vidBackporch | sync2Start | sync2End =>
    cases h
    simpa using hrun
  | reserved low =>
    cases h
    cases hrun

/-- A command that starts the timer is a CONFIGURE outside a session (R233, R236). -/
theorem command_starts_timer {c : Command} {s t : State} (h : performCommand c s = .next t) (hr : s.tmr.ctrl.run = false)
    (hrun : t.tmr.ctrl.run = true) :
    s.ctl.active = false ∧ ∃ vpin spin bitord w h, c = .configure vpin spin bitord w h := by
  cases performCommand_effect h with
  | started base f _ idle => exact ⟨idle, _, _, _, _, _, rfl⟩
  | failed st ht | refused ht | cleared _ ht | answered st v ht => subst ht; simp [hr, Timer.reset] at hrun

/-- What starts a stopped timer is a CONFIGURE outside a session. -/
theorem exec_starts_timer {i : Instr} {s t : State} (h : exec i s = .next t) (hr : s.tmr.ctrl.run = false)
    (hrun : t.tmr.ctrl.run = true) :
    s.ctl.active = false ∧ ∃ vpin spin bitord w h, commandOf i = some (.configure vpin spin bitord w h) := by
  cases exec_effect h with
  | transition p hx => cases hr.symm.trans (transition_starts_no_timer p hx hrun)
  | command c hc hx =>
    obtain ⟨idle, vpin, spin, bitord, w, h, rfl⟩ := command_starts_timer hx hr hrun
    exact ⟨idle, vpin, spin, bitord, w, h, hc⟩
  | tick hx =>
    cases (execTick_stopped hr).symm.trans hx
    cases hr.symm.trans hrun
  | byte hx =>
    rw [execDmaByte_frame hx] at hrun
    cases hr.symm.trans hrun
  | halt hrun' _ => cases hr.symm.trans hrun'
  | write addr value _ ht =>
    subst ht
    cases hr.symm.trans hrun

/-- Settles O39: ticks by induction, the other steps by what each kind of instruction can do. -/
theorem stoppedTimerFreezesOutputs : Obligations.StoppedTimerFreezesOutputs :=
  ⟨fun _ n hr => execAll_ticks_stopped hr n, fun _ _ _ hr h => exec_stopped_frame hr h,
    fun _ _ _ hr h => exec_starts_timer h hr⟩

/-! ### HOST_WRITE -/

/-- Settles O40: the write lands in the address space, and memory reads back the byte and every other address as before. -/
theorem hostWriteStoresOneByte : Obligations.HostWriteStoresOneByte := by
  intro addr value s hwf haddr
  have hin : inAddressSpace s addr = true := decide_eq_true haddr
  exact ⟨memWrite s addr value, if_pos hin, Memory.read_write_same hwf _ value,
    fun b hb => Memory.read_write_other value hb, rfl⟩

end Machine
end Sys2Proof

/-! PROOF. The agents' order (60_exceptions.md R267): what a step runs, scheduled or idle. -/

namespace Sys2Proof
namespace Machine

theorem decodeWhole_of_decode {sp : Space} {ws : List Word} {i : Instr} (h : decode sp ws = .ok (i, [])) :
    decodeWhole sp ws = .ok i := by
  simp [decodeWhole, h]

theorem nextInstr_idle {s : State} (h : s.script = []) : nextInstr s = .ok .tick := by simp [nextInstr, h]

theorem nextInstr_scheduled {s : State} {p : ScheduledStep} {rest : List ScheduledStep} (h : s.script = p :: rest) :
    nextInstr s = decodeWhole .evt p.words := by
  simp [nextInstr, h]

theorem takeScheduled_idle {s : State} (h : s.script = []) : takeScheduled s = s := by simp [takeScheduled, h]

theorem takeScheduled_scheduled {s : State} {p : ScheduledStep} {rest : List ScheduledStep} (h : s.script = p :: rest) :
    takeScheduled s = { s with script := rest, answers := p.answers } := by
  simp [takeScheduled, h]

/-- A step whose words decode is the decoded instruction, run once it is off the script. -/
theorem step_of_nextInstr {s : State} {i : Instr} (h : nextInstr s = .ok i) : step s = exec i (takeScheduled s) := by
  simp [step, h]

/-- Settles O56: the head of the script is decoded whole, and runs with its answers on the ports. -/
theorem stepRunsScheduledEvent : Obligations.StepRunsScheduledEvent := by
  intro s p rest i hscript hdecode
  have hnext : nextInstr s = .ok i := (nextInstr_scheduled hscript).trans (decodeWhole_of_decode hdecode)
  rw [step_of_nextInstr hnext, takeScheduled_scheduled hscript]

/-- Settles O57: an empty script schedules a TICK and leaves nothing to take off. -/
theorem idleStepIsTick : Obligations.IdleStepIsTick := by
  intro s hscript
  rw [step_of_nextInstr (nextInstr_idle hscript), takeScheduled_idle hscript]

end Machine
end Sys2Proof

/-! PROOF. The statuses and the fault (60_exceptions.md R260 to R264): which instructions answer, with which codes, and what
becomes of FAULT. -/

namespace Sys2Proof
namespace Machine

/-! ### The instructions that are no command -/

/-- From `s` to `t` the result port answers nothing, and of the control registers only FAULT can change, by raising BAD_PHASE
(R262, R264). -/
def Unanswered (s t : State) : Prop :=
  t.results = s.results ∧ (t.ctl = s.ctl ∨ t.ctl = { s.ctl with fault := ⟨true, badPhase⟩ })

theorem Unanswered.of_kept {s t : State} (hresults : t.results = s.results) (hctl : t.ctl = s.ctl) : Unanswered s t :=
  ⟨hresults, .inl hctl⟩

theorem Unanswered.status {s t : State} (h : Unanswered s t) : t.ctl.status = s.ctl.status := by
  obtain ⟨-, hctl | hctl⟩ := h <;> rw [hctl]

theorem Unanswered.faulted {s t : State} (h : Unanswered s t) (hf : s.ctl.fault.faulted = true) :
    t.ctl.fault.faulted = true := by
  obtain ⟨-, hctl | hctl⟩ := h <;> rw [hctl]
  exact hf

/-- A reserved phase raises the fault (R169); no other transition writes a control register. -/
theorem transition_unanswered (p : Phase) {s t : State} (h : exec p.toInstr s = .next t) : Unanswered s t := by
  cases p with
  | sync1End =>
    simp only [Phase.toInstr, exec, execSync1End] at h
    split at h <;> cases h <;> exact .of_kept rfl rfl
  | vidStart =>
    cases h
    cases mapped s.params (lineOf s) <;> exact .of_kept (by simp) (by simp)
  | sync1Start | vidBackporch | sync2Start | sync2End =>
    cases h
    exact .of_kept (by simp) (by simp)
  | reserved low =>
    cases h
    exact ⟨rfl, .inr rfl⟩

/-- Of a TICK's endings only the transition can raise the fault, and counting the tick writes NOW alone. -/
theorem tick_unanswered {s t : State} (h : execTick s = .next t) : Unanswered s t := by
  obtain ⟨-, rfl⟩ | ⟨-, -, rfl⟩ | ⟨-, -, -, rfl⟩ | ⟨-, -, -, htr⟩ := execTick_cases h
  · exact .of_kept rfl rfl
  · exact .of_kept rfl rfl
  · exact .of_kept rfl rfl
  · rw [takeTransition_eq] at htr
    have hexpired : Unanswered (countTick s) t := transition_unanswered _ htr
    exact hexpired

theorem byte_unanswered {s t : State} (h : execDmaByte s = .next t) : Unanswered s t := by
  rw [execDmaByte_frame h]
  exact .of_kept rfl rfl

/-- An instruction performs a command, or it answers nothing (R109). -/
theorem exec_command_or_unanswered {i : Instr} {s t : State} (h : exec i s = .next t) :
    (∃ c, performCommand c s = .next t) ∨ Unanswered s t := by
  cases exec_effect h with
  | transition p hx => exact .inr (transition_unanswered p hx)
  | command c _ hx => exact .inl ⟨c, hx⟩
  | tick hx => exact .inr (tick_unanswered hx)
  | byte hx => exact .inr (byte_unanswered hx)
  | halt _ ht => exact .inr (ht ▸ .of_kept rfl rfl)
  | write addr value _ ht => exact .inr (ht ▸ .of_kept rfl rfl)

/-! ### The commands -/

/-- A command answers with one of R260's statuses, which STATUS takes or leaves alone (R45). -/
theorem command_status {c : Command} {s t : State} (h : performCommand c s = .next t) :
    ∃ (st : Status) (v : Word), t.results = s.results ++ [⟨st.code, v⟩] ∧
      (t.ctl.status = s.ctl.status ∨ t.ctl.status = st.code) := by
  cases performCommand_effect h with
  | failed st ht => exact ⟨st, 0#32, ht ▸ ⟨rfl, .inr rfl⟩⟩
  | started base f _ _ _ _ _ _ ht => exact ⟨.ok, base, ht ▸ ⟨rfl, .inr rfl⟩⟩
  | refused ht => exact ⟨.faulted, 0#32, ht ▸ ⟨rfl, .inr rfl⟩⟩
  | cleared _ ht => exact ⟨.ok, 0#32, ht ▸ ⟨rfl, .inr rfl⟩⟩
  | answered st v ht => exact ⟨st, v, ht ▸ ⟨rfl, .inl rfl⟩⟩

/-- No command writes FAULT (R48): a TEARDOWN clears the other registers and keeps it. -/
theorem command_keeps_fault {c : Command} {s t : State} (h : performCommand c s = .next t) : t.ctl.fault = s.ctl.fault := by
  cases performCommand_effect h with
  | failed _ ht | started _ _ _ _ _ _ _ _ ht | refused ht | cleared _ ht | answered _ _ ht => exact ht ▸ rfl

/-- Settles O37: a command answers with one of the eight codes, and every other instruction not at all. -/
theorem statusCodesProduced : Obligations.StatusCodesProduced := by
  intro i s t h
  obtain ⟨c, hx⟩ | hsilent := exec_command_or_unanswered h
  · obtain ⟨st, v, hresults, hstatus⟩ := command_status hx
    exact .inr ⟨_, hresults, st.code_le, hstatus⟩
  · exact .inl ⟨hsilent.1, hsilent.status⟩

/-! ### The fault -/

theorem exec_keeps_faulted {i : Instr} {s t : State} (h : exec i s = .next t) (hf : s.ctl.fault.faulted = true) :
    t.ctl.fault.faulted = true := by
  obtain ⟨c, hx⟩ | hsilent := exec_command_or_unanswered h
  · rw [command_keeps_fault hx]
    exact hf
  · exact hsilent.faulted hf

/-- Settles O49: no instruction clears FAULT, reset does, and a faulted block answers FAULTED to CONFIGURE and TEARDOWN. -/
theorem faultIsSticky : Obligations.FaultIsSticky :=
  ⟨fun _ _ _ => exec_keeps_faulted, fun _ => rfl, fun _ _ _ _ _ _ hf =>
    ⟨⟨_, execConfigure_faulted hf, rfl, rfl⟩, ⟨_, execTeardown_faulted hf, rfl, rfl⟩⟩⟩

end Machine
end Sys2Proof

/-! PROOF. The reset (70_reset_and_hazards.md R300): what the registers read after it, from any state. -/

namespace Sys2Proof
namespace Machine

/-- A reset block is a cleared block whose FAULT is clear as well. -/
theorem readRegister_powerOn (s : State) {r : BitVec 8} (hr : r.toNat ≤ 0x1A) :
    readRegister (powerOn s) r = some 0#32 := by
  by_cases hfault : r = 0x19#8
  · subst hfault
    rfl
  · exact readRegister_cleared rfl rfl rfl rfl rfl rfl rfl hr hfault

/-- The reset state is one that reset leaves: its own. -/
theorem powerOn_reset : powerOn State.reset = State.reset := rfl

/-- Settles O50: every register reads 0 after reset, and reset keeps the memory while NOW and the trace start again. -/
theorem resetState : Obligations.ResetState :=
  ⟨fun _ hr => powerOn_reset ▸ readRegister_powerOn State.reset hr, rfl, rfl, fun s =>
    ⟨powerOn_mem s, powerOn_now s, powerOn_trace s, fun _ => readRegister_powerOn s⟩⟩

end Machine
end Sys2Proof
